-- ==== Sys2Proof/Word.lean ====
section
/-! DEFINITION. The widths DHTDEC works on, the names of its FSM states, and the words an instruction is written as. -/

namespace Sys2Proof

/-- One byte of the received frame (R48, R119). -/
abbrev Byte := BitVec 8
/-- A host register, `bus_wdata` and `bus_rdata` (R31, R83). -/
abbrev RegWord := BitVec 32
/-- `bus_addr`: a byte address of the 256-byte register space (R80). -/
abbrev BusAddr := BitVec 8
/-- The host transaction word `T` (R110). -/
abbrev TxnWord := BitVec 41
/-- The 4-bit FSM state code (R40, R115). -/
abbrev StateCode := BitVec 4

/-- The values of the FSM state register (R115), with the four reserved codes 12 + `low` (R116). -/
inductive FsmState where
  | idle
  | startLow
  | startHigh
  | awaitReleaseHigh
  | awaitAckLow
  | awaitAckHigh
  | bitWaitLow
  | bitMeasureHigh
  | checksumCheck
  | success
  | timeout
  | chkerr
  | rsvd (low : BitVec 2)
  deriving DecidableEq, Repr

/-- What an instruction is written as: a transaction word of one cycle (format BUS, R110), a cycle with
`bus_valid = 0` (format IDLE, R140), or a state code of one tick (format FSM, R115). -/
inductive Word where
  | bus (t : TxnWord)
  | noTxn
  | fsm (c : StateCode)
  deriving DecidableEq, Repr

end Sys2Proof
end

