-- ==== Sys2Proof/Syntax.lean ====
section
/-! DEFINITION. The instructions: one constructor for each row of spec/opcode_table.json. -/

namespace Sys2Proof

/-- A host transaction (format BUS), a cycle without one (format IDLE), or one tick of an FSM state (format FSM).
Every bit of a transaction word that no row fixes is an operand, the ignored ones too (log entry 16):
`lane` is `ADDR[1:0]`, `slot` is `ADDR[7:2]` of a reserved slot, `wdata` is `WDATA`. -/
inductive Instr where
  -- host reads (R162 to R170)
  | rdCtrl (lane : BitVec 2) (wdata : RegWord)
  | rdStatus (lane : BitVec 2) (wdata : RegWord)
  | rdRaw0 (lane : BitVec 2) (wdata : RegWord)
  | rdRaw1 (lane : BitVec 2) (wdata : RegWord)
  | rdHum (lane : BitVec 2) (wdata : RegWord)
  | rdTemp (lane : BitVec 2) (wdata : RegWord)
  | rdTemps (lane : BitVec 2) (wdata : RegWord)
  | rdRsvd (slot : BitVec 6) (lane : BitVec 2) (wdata : RegWord)
  -- host writes (R152 to R161, R171)
  | wrCtrlStart (lane : BitVec 2) (wdata : RegWord)
  | wrCtrlNostart (lane : BitVec 2) (wdata : RegWord)
  | wrStatus (lane : BitVec 2) (wdata : RegWord)
  | wrRaw0 (lane : BitVec 2) (wdata : RegWord)
  | wrRaw1 (lane : BitVec 2) (wdata : RegWord)
  | wrHum (lane : BitVec 2) (wdata : RegWord)
  | wrTemp (lane : BitVec 2) (wdata : RegWord)
  | wrTemps (lane : BitVec 2) (wdata : RegWord)
  | wrRsvd (slot : BitVec 6) (lane : BitVec 2) (wdata : RegWord)
  -- a cycle with no transaction (R140)
  | nop
  -- one tick in each FSM state (R202 to R204, R233 to R235, R262, R263, R310, R315 to R317, R116)
  | idle
  | startLow
  | startHigh
  | awaitReleaseHigh
  | awaitAckLow
  | awaitAckHigh
  | bitWaitLow
  | bitMeasureHigh
  | checksumCheck
  | success
  | timeout
  | chkerr
  | rsvdState (low : BitVec 2)
  deriving DecidableEq, Repr

end Sys2Proof
end

