-- ==== Sys2Proof/WellFormed.lean ====
section
/-! DEFINITION. Which terms of Instr stand for a word of the encoding. -/

namespace Sys2Proof

/-- A reserved slot is `ADDR[7:2]` in 7..63, and `WDATA[0]` tells WR_CTRL_START (1) from WR_CTRL_NOSTART (0) (R111).
Nothing else restricts an operand. -/
def wellFormed : Instr → Bool
  | .rdRsvd slot _ _ | .wrRsvd slot _ _ => 7 ≤ slot.toNat
  | .wrCtrlStart _ wdata => wdata.getLsbD 0
  | .wrCtrlNostart _ wdata => !wdata.getLsbD 0
  | .rdCtrl _ _ | .rdStatus _ _ | .rdRaw0 _ _ | .rdRaw1 _ _ | .rdHum _ _ | .rdTemp _ _ | .rdTemps _ _
  | .wrStatus _ _ | .wrRaw0 _ _ | .wrRaw1 _ _ | .wrHum _ _ | .wrTemp _ _ | .wrTemps _ _ | .nop
  | .idle | .startLow | .startHigh | .awaitReleaseHigh | .awaitAckLow | .awaitAckHigh | .bitWaitLow
  | .bitMeasureHigh | .checksumCheck | .success | .timeout | .chkerr | .rsvdState _ => true

end Sys2Proof
end

