-- ==== Sys2Proof/Decode.lean ====
section
/-! DEFINITION. The decoder of transaction words, state codes and bytes, and after it the encoder. -/

namespace Sys2Proof

/-! ### Fields of a transaction word (R110) -/

/-- `T[40]`: 1 = write. -/
def txnWrite (t : TxnWord) : Bool := t.getLsbD 40
/-- `T[39:32]`: the byte address. -/
def txnAddr (t : TxnWord) : BusAddr := t.extractLsb' 32 8
/-- `T[31:0]`: the write data. -/
def txnData (t : TxnWord) : RegWord := t.extractLsb' 0 32
/-- `ADDR[7:2]`: the register selected (R83). -/
def addrSlot (a : BusAddr) : BitVec 6 := a.extractLsb' 2 6
/-- `ADDR[1:0]`: ignored by every transaction (R83). -/
def addrLane (a : BusAddr) : BitVec 2 := a.extractLsb' 0 2

/-! ### State codes (R115, R116) -/

/-- The 4-bit code of an FSM state. -/
def FsmState.code : FsmState → StateCode
  | .idle => 0#4
  | .startLow => 1#4
  | .startHigh => 2#4
  | .awaitReleaseHigh => 3#4
  | .awaitAckLow => 4#4
  | .awaitAckHigh => 5#4
  | .bitWaitLow => 6#4
  | .bitMeasureHigh => 7#4
  | .checksumCheck => 8#4
  | .success => 9#4
  | .timeout => 10#4
  | .chkerr => 11#4
  | .rsvd low => 3#2 ++ low

/-- The FSM state of a 4-bit code. -/
def stateOfCode (c : StateCode) : FsmState :=
  match c.toNat with
  | 0 => .idle
  | 1 => .startLow
  | 2 => .startHigh
  | 3 => .awaitReleaseHigh
  | 4 => .awaitAckLow
  | 5 => .awaitAckHigh
  | 6 => .bitWaitLow
  | 7 => .bitMeasureHigh
  | 8 => .checksumCheck
  | 9 => .success
  | 10 => .timeout
  | 11 => .chkerr
  | _ => .rsvd (c.extractLsb' 0 2)

/-- The opcode row that says what one tick does in an FSM state. -/
def instrOfState : FsmState → Instr
  | .idle => .idle
  | .startLow => .startLow
  | .startHigh => .startHigh
  | .awaitReleaseHigh => .awaitReleaseHigh
  | .awaitAckLow => .awaitAckLow
  | .awaitAckHigh => .awaitAckHigh
  | .bitWaitLow => .bitWaitLow
  | .bitMeasureHigh => .bitMeasureHigh
  | .checksumCheck => .checksumCheck
  | .success => .success
  | .timeout => .timeout
  | .chkerr => .chkerr
  | .rsvd low => .rsvdState low

/-! ### The decoder (R111) -/

/-- The read of register `slot`. -/
def decodeRead (slot : BitVec 6) (lane : BitVec 2) (wdata : RegWord) : Instr :=
  match slot.toNat with
  | 0 => .rdCtrl lane wdata
  | 1 => .rdStatus lane wdata
  | 2 => .rdRaw0 lane wdata
  | 3 => .rdRaw1 lane wdata
  | 4 => .rdHum lane wdata
  | 5 => .rdTemp lane wdata
  | 6 => .rdTemps lane wdata
  | _ => .rdRsvd slot lane wdata

/-- The write of register `slot`; `WDATA[0]` is the one opcode bit among the data. -/
def decodeWrite (slot : BitVec 6) (lane : BitVec 2) (wdata : RegWord) : Instr :=
  match slot.toNat with
  | 0 => if wdata.getLsbD 0 then .wrCtrlStart lane wdata else .wrCtrlNostart lane wdata
  | 1 => .wrStatus lane wdata
  | 2 => .wrRaw0 lane wdata
  | 3 => .wrRaw1 lane wdata
  | 4 => .wrHum lane wdata
  | 5 => .wrTemp lane wdata
  | 6 => .wrTemps lane wdata
  | _ => .wrRsvd slot lane wdata

/-- The instruction of a transaction word: total, every 41-bit word is exactly one row (R111). -/
def decodeBus (t : TxnWord) : Instr :=
  if txnWrite t then decodeWrite (addrSlot (txnAddr t)) (addrLane (txnAddr t)) (txnData t)
  else decodeRead (addrSlot (txnAddr t)) (addrLane (txnAddr t)) (txnData t)

/-- The instruction of a state code. -/
def decodeFsm (c : StateCode) : Instr := instrOfState (stateOfCode c)

/-- The instruction a word stands for. -/
def decode : Word → Instr
  | .bus t => decodeBus t
  | .noTxn => .nop
  | .fsm c => decodeFsm c

/-! ### Words laid out as bytes (log entry 12) -/

/-- The three formats of the opcode table. -/
inductive WordFormat where
  | bus
  | noTxn
  | fsm
  deriving DecidableEq, Repr

/-- Why bytes are no word of a format. -/
inductive DecodeError where
  /-- The number of bytes is not the format's. -/
  | wrongLength (got : Nat)
  /-- A bit above the word's 41 (BUS) or 4 (FSM) is set. -/
  | strayBits (value : Nat)
  deriving DecidableEq, Repr

/-- Bytes read as one number, the first the least significant. -/
def littleEndian : List Byte → Nat
  | [] => 0
  | b :: rest => b.toNat + 256 * littleEndian rest

/-- The bytes a word of the format takes: 41, 0 and 4 bits in whole bytes. -/
def WordFormat.nbytes : WordFormat → Nat
  | .bus => 6
  | .noTxn => 0
  | .fsm => 1

/-- The word that bytes hold, or why they hold none. -/
def wordOfBytes (f : WordFormat) (bytes : List Byte) : Except DecodeError Word :=
  if bytes.length ≠ f.nbytes then .error (.wrongLength bytes.length)
  else
    let v := littleEndian bytes
    match f with
    | .bus => if v < 2 ^ 41 then .ok (.bus (BitVec.ofNat 41 v)) else .error (.strayBits v)
    | .noTxn => .ok .noTxn
    | .fsm => if v < 2 ^ 4 then .ok (.fsm (BitVec.ofNat 4 v)) else .error (.strayBits v)

/-- The decoder over bytes: total, and it rejects by name. -/
def decodeBytes (f : WordFormat) (bytes : List Byte) : Except DecodeError Instr :=
  (wordOfBytes f bytes).map decode

/-- The bytes of a number, the least significant first. -/
def bytesOf (n w : Nat) : List Byte := (List.range n).map fun k => BitVec.ofNat 8 (w >>> (8 * k))

/-- The format whose rows have `nbits` bits in spec/opcode_table.json: NOP gives none, an FSM code 4, a transaction 41. -/
def formatOfBits (nbits : Nat) : WordFormat :=
  if nbits = 0 then .noTxn else if nbits ≤ 8 then .fsm else .bus

/-- The word of `nbits` bits that the opcode table numbers as `w`, or why there is none. -/
def tableWord (nbits w : Nat) : Except DecodeError Word :=
  wordOfBytes (formatOfBits nbits) (bytesOf (formatOfBits nbits).nbytes w)

/-- The instruction of `nbits` bits that the opcode table numbers as `w`. -/
def decodeTableWord (nbits w : Nat) : Option Instr :=
  (decodeBytes (formatOfBits nbits) (bytesOf (formatOfBits nbits).nbytes w)).toOption

/-! ### The encoder -/

/-- A transaction word from its fields (R110). -/
def txnWord (write : Bool) (slot : BitVec 6) (lane : BitVec 2) (wdata : RegWord) : TxnWord :=
  BitVec.ofBool write ++ slot ++ lane ++ wdata

/-- The word of an instruction. -/
def encode : Instr → Word
  | .rdCtrl lane wdata => .bus (txnWord false 0#6 lane wdata)
  | .rdStatus lane wdata => .bus (txnWord false 1#6 lane wdata)
  | .rdRaw0 lane wdata => .bus (txnWord false 2#6 lane wdata)
  | .rdRaw1 lane wdata => .bus (txnWord false 3#6 lane wdata)
  | .rdHum lane wdata => .bus (txnWord false 4#6 lane wdata)
  | .rdTemp lane wdata => .bus (txnWord false 5#6 lane wdata)
  | .rdTemps lane wdata => .bus (txnWord false 6#6 lane wdata)
  | .rdRsvd slot lane wdata => .bus (txnWord false slot lane wdata)
  | .wrCtrlStart lane wdata => .bus (txnWord true 0#6 lane wdata)
  | .wrCtrlNostart lane wdata => .bus (txnWord true 0#6 lane wdata)
  | .wrStatus lane wdata => .bus (txnWord true 1#6 lane wdata)
  | .wrRaw0 lane wdata => .bus (txnWord true 2#6 lane wdata)
  | .wrRaw1 lane wdata => .bus (txnWord true 3#6 lane wdata)
  | .wrHum lane wdata => .bus (txnWord true 4#6 lane wdata)
  | .wrTemp lane wdata => .bus (txnWord true 5#6 lane wdata)
  | .wrTemps lane wdata => .bus (txnWord true 6#6 lane wdata)
  | .wrRsvd slot lane wdata => .bus (txnWord true slot lane wdata)
  | .nop => .noTxn
  | .idle => .fsm 0#4
  | .startLow => .fsm 1#4
  | .startHigh => .fsm 2#4
  | .awaitReleaseHigh => .fsm 3#4
  | .awaitAckLow => .fsm 4#4
  | .awaitAckHigh => .fsm 5#4
  | .bitWaitLow => .fsm 6#4
  | .bitMeasureHigh => .fsm 7#4
  | .checksumCheck => .fsm 8#4
  | .success => .fsm 9#4
  | .timeout => .fsm 10#4
  | .chkerr => .fsm 11#4
  | .rsvdState low => .fsm (3#2 ++ low)

/-- `match` and `mask` of a row of spec/opcode_table.json. -/
structure TableRow where
  pattern : Nat
  mask : Nat
  deriving DecidableEq, Repr

/-- The row of spec/opcode_table.json an instruction belongs to; NOP's row has no word. -/
def tableRow : Instr → Option TableRow
  | .rdCtrl _ _ => some ⟨0x00000000000, 0x1FC00000000⟩
  | .rdStatus _ _ => some ⟨0x00400000000, 0x1FC00000000⟩
  | .rdRaw0 _ _ => some ⟨0x00800000000, 0x1FC00000000⟩
  | .rdRaw1 _ _ => some ⟨0x00C00000000, 0x1FC00000000⟩
  | .rdHum _ _ => some ⟨0x01000000000, 0x1FC00000000⟩
  | .rdTemp _ _ => some ⟨0x01400000000, 0x1FC00000000⟩
  | .rdTemps _ _ => some ⟨0x01800000000, 0x1FC00000000⟩
  | .rdRsvd _ _ _ => some ⟨0x00000000000, 0x10000000000⟩
  | .wrCtrlStart _ _ => some ⟨0x10000000001, 0x1FC00000001⟩
  | .wrCtrlNostart _ _ => some ⟨0x10000000000, 0x1FC00000001⟩
  | .wrStatus _ _ => some ⟨0x10400000000, 0x1FC00000000⟩
  | .wrRaw0 _ _ => some ⟨0x10800000000, 0x1FC00000000⟩
  | .wrRaw1 _ _ => some ⟨0x10C00000000, 0x1FC00000000⟩
  | .wrHum _ _ => some ⟨0x11000000000, 0x1FC00000000⟩
  | .wrTemp _ _ => some ⟨0x11400000000, 0x1FC00000000⟩
  | .wrTemps _ _ => some ⟨0x11800000000, 0x1FC00000000⟩
  | .wrRsvd _ _ _ => some ⟨0x10000000000, 0x10000000000⟩
  | .nop => none
  | .idle => some ⟨0x0, 0xF⟩
  | .startLow => some ⟨0x1, 0xF⟩
  | .startHigh => some ⟨0x2, 0xF⟩
  | .awaitReleaseHigh => some ⟨0x3, 0xF⟩
  | .awaitAckLow => some ⟨0x4, 0xF⟩
  | .awaitAckHigh => some ⟨0x5, 0xF⟩
  | .bitWaitLow => some ⟨0x6, 0xF⟩
  | .bitMeasureHigh => some ⟨0x7, 0xF⟩
  | .checksumCheck => some ⟨0x8, 0xF⟩
  | .success => some ⟨0x9, 0xF⟩
  | .timeout => some ⟨0xA, 0xF⟩
  | .chkerr => some ⟨0xB, 0xF⟩
  | .rsvdState _ => some ⟨0xC, 0xC⟩

/-- The bits of a word, as the opcode table numbers them. -/
def Word.value : Word → Nat
  | .bus t => t.toNat
  | .noTxn => 0
  | .fsm c => c.toNat

end Sys2Proof
end

