-- ==== Sys2Proof/Config.lean ====
section
/-! DEFINITION. The synthesis-time parameters of R10, their defaults, and the free values the spec leaves open. -/

namespace Sys2Proof

/-- The configuration record of R10, with the platform's `DHTDEC_BASE` (R82). -/
structure Config where
  /-- `CLK_PER_TICK`: clock cycles in one sample tick. -/
  clkPerTick : Nat
  /-- `SYNC_STAGES`: flip-flops of the input synchroniser. -/
  syncStages : Nat
  /-- `START_LOW_US`: ticks the line is driven low. -/
  startLowUs : Nat
  /-- `START_HIGH_US`: ticks the line is driven high. -/
  startHighUs : Nat
  /-- `DEADLINE_US`: ticks from START to the absolute deadline. -/
  deadlineUs : Nat
  /-- `PULSE_CAP`: the largest high-pulse count accepted. -/
  pulseCap : Nat
  /-- `BIT_THRESHOLD`: the count above which a bit is 1. -/
  bitThreshold : Nat
  /-- `DHTDEC_BASE`: where the register space sits in the host's address map. -/
  dhtdecBase : Nat
  deriving DecidableEq, Repr

/-- `SAMPLE_PERIOD_US`, fixed at 1 (R10). -/
def Config.samplePeriodUs : Nat := 1
/-- `NBITS`, fixed at 40 (R10). -/
def Config.nbits : Nat := 40
/-- `NBYTES`, fixed at 5 (R10). -/
def Config.nbytes : Nat := 5

/-- R10's defaults.
The two OPEN parameters have none: `CLK_PER_TICK = 1` and `DHTDEC_BASE = 0` are DESIGN CHOICES (log entry 4). -/
def Config.default : Config where
  clkPerTick := 1
  syncStages := 2
  startLowUs := 20000
  startHighUs := 40
  deadlineUs := 300000
  pulseCap := 200
  bitThreshold := 45
  dhtdecBase := 0

/-- Free value: the level of `line_i` in a clock cycle for which `State.lineIn` lists none (R6, R405; log entry 2). -/
opaque Config.freeLine : Nat → Bool

/-- Free value: what synchroniser stage `k` holds after the reset of a clock cycle (R50, R63; log entry 3). -/
opaque Config.freeSync : Nat → Nat → Bool

end Sys2Proof
end

