-- ==== Sys2Proof/Machine/State.lean ====
section
/-! DEFINITION. The machine's state as plain data, its stop reasons, and the state after reset. -/

namespace Sys2Proof.Machine

/-- Five bytes: the raw byte buffer `buf` (R48) and the output registers `out` (R56). -/
structure Frame where
  b0 : Byte
  b1 : Byte
  b2 : Byte
  b3 : Byte
  b4 : Byte
  deriving DecidableEq, Repr

/-- Five zero bytes. -/
def Frame.zero : Frame := ⟨0#8, 0#8, 0#8, 0#8, 0#8⟩

/-- One statement of the host's program (R140), one clock cycle each.
`waitDone` is the pseudo-instruction WAITDONE, the host's loop of `RD STATUS` (R141; log entry 11). -/
inductive HostOp where
  | txn (t : TxnWord)
  | nop
  | waitDone
  deriving DecidableEq, Repr

structure State where
  /-- The instance's parameters (R10, R57), which no step changes (log entry 4). -/
  cfg : Config
  /-- R40: the FSM state register, 4 bits wide. -/
  state : FsmState
  /-- R41: 1 = the block drives the line. -/
  lineOe : Bool
  /-- R42: the level it drives. -/
  lineO : Bool
  /-- R43: ticks since START was accepted. -/
  elapsed : Nat
  /-- R45: ticks inside START_LOW and START_HIGH. -/
  phaseCnt : Nat
  /-- R46: high samples of the current data bit. -/
  pulseCnt : Nat
  /-- R47: data bits assembled in the exchange. -/
  bitIdx : Nat
  /-- R48: the raw byte buffer. -/
  buf : Frame
  /-- R49: the tick prescaler. -/
  presc : Nat
  /-- R50: the input synchroniser, `sync[0]` first. -/
  sync : List Bool
  /-- R51: CTRL.IE. -/
  ie : Bool
  /-- R52: STATUS.RESULT. -/
  result : BitVec 2
  /-- R53: STATUS.DONE. -/
  done : Bool
  /-- R55: STATUS.FAIL_STATE. -/
  failState : BitVec 4
  /-- R56: the output registers. -/
  out : Frame
  /-- The port `bus_rdata` (R31, R60) in the last cycle: the data of its read, 0 when it carried none (log entry 9). -/
  rdata : RegWord
  /-- The input `rst_n` in the coming cycles, oldest first; 1 where the list ends (log entry 1). -/
  rstIn : List Bool
  /-- The host's program from the coming cycle on (R8); no transaction where the list ends (log entry 1). -/
  hostIn : List HostOp
  /-- The input `line_i` in the coming cycles, oldest first; free where the list ends (log entry 2). -/
  lineIn : List Bool
  /-- Clock cycles so far: the counter that free values are drawn with (log entry 18). -/
  cycleNo : Nat
  deriving DecidableEq, Repr

/-- Why the machine stops with a fault: there is no reason.
The bus has no error response (R89) and no event of the block is an exception that ends it (R354; log entry 22). -/
inductive Fault where
  deriving DecidableEq, Repr

/-- Why the model gives no next state. -/
inductive Refusal where
  /-- An arm of `exec` whose instruction has no meaning yet; no arm raises it now.
  Safe: nothing is proved of the instruction. -/
  | notModelled (mnemonic : String)
  /-- `step`, when the parameters are outside R10's legal ranges: R11 gives such a block no semantics.
  Safe. -/
  | illegalConfig
  deriving DecidableEq, Repr

/-- Any contents the synchroniser may have after the reset of cycle `n` (R50; log entry 3). -/
def freeSyncBits (stages n : Nat) : List Bool := (List.range stages).map (Config.freeSync n)

/-- R63's reset values, for an instance with parameters `cfg` that is reset in cycle `n`.
No input is listed: the host's program and the line's levels are placed from outside (log entry 13). -/
def State.resetWith (cfg : Config) (n : Nat) : State where
  cfg := cfg
  state := .idle
  lineOe := false
  lineO := true
  elapsed := 0
  phaseCnt := 0
  pulseCnt := 0
  bitIdx := 0
  buf := Frame.zero
  presc := 0
  sync := freeSyncBits cfg.syncStages n
  ie := false
  result := 0#2
  done := false
  failState := 0#4
  out := Frame.zero
  rdata := 0#32
  rstIn := []
  hostIn := []
  lineIn := []
  cycleNo := n

/-- The machine right after reset (R63), with the default parameters. -/
def State.reset : State := State.resetWith Config.default 0

end Sys2Proof.Machine
end

