-- ==== Sys2Proof/Machine/Flags.lean ====
section
/-! DEFINITION. The conditions the rules test: BUSY, irq, the tick, the deadline, the bit classifier, the checksum; and the RESULT codes. -/

namespace Sys2Proof.Machine

/-! ### STATUS.RESULT (R123) -/

/-- No exchange has finished. -/
abbrev resultNone : BitVec 2 := 0#2
/-- The exchange succeeded. -/
abbrev resultSuccess : BitVec 2 := 1#2
/-- The exchange ended in TIMEOUT. -/
abbrev resultTimeout : BitVec 2 := 2#2
/-- The exchange ended in CHKERR. -/
abbrev resultChkerr : BitVec 2 := 3#2

/-- R54: the FSM states with an exchange in progress, codes 1 to 8; a reserved code is not busy (R116). -/
def busyState : FsmState → Bool
  | .startLow | .startHigh | .awaitReleaseHigh | .awaitAckLow | .awaitAckHigh | .bitWaitLow | .bitMeasureHigh
  | .checksumCheck => true
  | .idle | .success | .timeout | .chkerr | .rsvd _ => false

/-- R54: `busy := (1 <= state <= 8)`. -/
def busy (s : State) : Bool := busyState s.state

/-- R360: `irq := done & ie`. -/
def irq (s : State) : Bool := s.done && s.ie

/-- R49: the cycle is a tick when `presc = CLK_PER_TICK - 1` before the edge. -/
def isTick (s : State) : Bool := decide (s.presc + 1 = s.cfg.clkPerTick)

/-- R50: the sample of a tick, the last synchroniser stage before the edge. -/
def lin (s : State) : Bool := s.sync.getD (s.cfg.syncStages - 1) (Config.freeSync s.cycleNo (s.cfg.syncStages - 1))

/-- R43, R44: `e1`, the deadline counter after a tick's increment. -/
def elapsedNext (s : State) : Nat := min (s.elapsed + 1) (s.cfg.deadlineUs + 1)

/-- R44: `exceeded(e1) := e1 > DEADLINE_US`. -/
def exceeded (c : Config) (e1 : Nat) : Bool := decide (c.deadlineUs < e1)

/-- R261: a bit is 1 when its high pulse count is above the threshold. -/
def classify (c : Config) (count : Nat) : Bool := decide (c.bitThreshold < count)

/-- R312: the sum on unbounded naturals, then reduced. -/
def checksumOk (f : Frame) : Bool :=
  f.b4.toNat == (f.b0.toNat + f.b1.toNat + f.b2.toNat + f.b3.toNat) % 256

end Sys2Proof.Machine
end

