-- ==== Sys2Proof/Machine/Operands.lean ====
section
/-! DEFINITION. The operands of a write, the value decoder, and what each host register reads as. -/

namespace Sys2Proof.Machine

/-! ### Write-data operands (R112) -/

/-- CTRL: `WDATA[0]`, START. -/
def startOperand (v : RegWord) : Bool := v.getLsbD 0
/-- CTRL: `WDATA[1]`, IE. -/
def ieOperand (v : RegWord) : Bool := v.getLsbD 1
/-- STATUS: `WDATA[3]`, DONE_CLR. -/
def doneClrOperand (v : RegWord) : Bool := v.getLsbD 3

/-! ### The frame as a number -/

/-- The 40-bit number with byte 0 the most significant (R292). -/
def Frame.number (f : Frame) : Nat :=
  (((f.b0.toNat * 256 + f.b1.toNat) * 256 + f.b2.toNat) * 256 + f.b3.toNat) * 256 + f.b4.toNat

/-! ### The value decoder -/

/-- R320: humidity in tenths of %RH. -/
def hum10 (f : Frame) : BitVec 16 := f.b0 ++ f.b1
/-- R321: temperature magnitude in tenths of °C. -/
def tempMag10 (f : Frame) : BitVec 16 := (f.b2 &&& 0x7F#8) ++ f.b3
/-- R321: the temperature's sign flag. -/
def tempNeg (f : Frame) : Bool := f.b2.getLsbD 7
/-- R322: the signed temperature in tenths, two's complement. -/
def tempS10 (f : Frame) : RegWord :=
  if tempNeg f then BitVec.ofNat 32 (2 ^ 32 - (tempMag10 f).toNat) else (tempMag10 f).zeroExtend 32

/-! ### Register views -/

/-- R121. -/
def ctrlView (s : State) : RegWord := 0#30 ++ BitVec.ofBool s.ie ++ 0#1
/-- R122. -/
def statusView (s : State) : RegWord :=
  0#12 ++ s.failState ++ 0#2 ++ BitVec.ofNat 6 s.bitIdx ++ s.state.code
    ++ BitVec.ofBool s.done ++ BitVec.ofBool (busy s) ++ s.result
/-- R126. -/
def raw0View (s : State) : RegWord := s.out.b3 ++ s.out.b2 ++ s.out.b1 ++ s.out.b0
/-- R127. -/
def raw1View (s : State) : RegWord := s.out.b4.zeroExtend 32
/-- R128. -/
def humView (s : State) : RegWord := (hum10 s.out).zeroExtend 32
/-- R129. -/
def tempView (s : State) : RegWord := (s.out.b2 ++ s.out.b3).zeroExtend 32
/-- R130. -/
def tempsView (s : State) : RegWord := tempS10 s.out

/-- R85: `RegRead(s, addr)`, also `MemRead(addr, 4)`. -/
def regRead (s : State) (addr : BusAddr) : RegWord :=
  match (addrSlot addr).toNat with
  | 0 => ctrlView s
  | 1 => statusView s
  | 2 => raw0View s
  | 3 => raw1View s
  | 4 => humView s
  | 5 => tempView s
  | 6 => tempsView s
  | _ => 0#32

end Sys2Proof.Machine
end

