-- ==== Sys2Proof/Machine/Ops.lean ====
section
/-! DEFINITION. The operations the meanings share: ending an exchange, accepting a START, the bit assembler, the deadline count, and the parts of a clock cycle around a tick. -/

namespace Sys2Proof.Machine

/-! ### Taking an exception, and the other ends of an exchange -/

/-- Ends the exchange with a failure (R352, R353, R357): RESULT and FAIL_STATE say what failed and where, DONE is set,
and the FSM goes to the failure's terminal state.
Nothing else is written. -/
def raiseFailure (terminal : FsmState) (code : BitVec 2) (failedIn : FsmState) (s : State) : State :=
  { s with state := terminal, result := code, done := true, failState := failedIn.code }

/-- R352: `raise Timeout(c)`. -/
def raiseTimeout (c : FsmState) (s : State) : State := raiseFailure .timeout resultTimeout c s

/-- R353: `raise ChecksumError`. -/
def raiseChecksumError (s : State) : State := raiseFailure .chkerr resultChkerr .checksumCheck s

/-- R315: `EnterSuccess()`. -/
def enterSuccess (s : State) : State :=
  { s with state := .success, out := s.buf, result := resultSuccess, done := true, failState := 0#4 }

/-- R154: `StartAccept`, the one way out of a terminal state (R358). -/
def startAccept (s : State) : State :=
  { s with
    state := .startLow, lineOe := true, lineO := false, elapsed := 0, phaseCnt := 0, pulseCnt := 0, bitIdx := 0,
    buf := Frame.zero, out := Frame.zero, result := resultNone, done := false, failState := 0#4, presc := 0 }

/-! ### Parts of a tick -/

/-- R61: a busy tick first counts itself, `elapsed <- e1`. -/
def countTick (s : State) : State := { s with elapsed := elapsedNext s }

/-- R231: the deadline test, on the count that includes this tick. -/
def deadlinePassed (s : State) : Bool := exceeded s.cfg s.elapsed

/-- R232: `WaitWhile(L, next)`, one tick in the state `here` with sample `l`. -/
def waitWhile (here : FsmState) (level : Bool) (next : FsmState) (l : Bool) (s : State) : State :=
  let s := countTick s
  if deadlinePassed s then raiseTimeout here s
  else if l = level then s
  else { s with state := next }

/-- Sets the bits of `m` in byte `k`. -/
def Frame.orByte (f : Frame) (k : Nat) (m : Byte) : Frame :=
  match k with
  | 0 => { f with b0 := f.b0 ||| m }
  | 1 => { f with b1 := f.b1 ||| m }
  | 2 => { f with b2 := f.b2 ||| m }
  | 3 => { f with b3 := f.b3 ||| m }
  | 4 => { f with b4 := f.b4 ||| m }
  | _ => f

/-- R290: `Assemble(i, b)`. -/
def assemble (f : Frame) (i : Nat) (b : Bool) : Frame :=
  if b then f.orByte (i / 8) (1#8 <<< (7 - i % 8)) else f

/-! ### Writes of the host interface -/

/-- R152, R153: every write to CTRL writes IE. -/
def setIe (b : Bool) (s : State) : State := { s with ie := b }

/-- R155: clears DONE and nothing else. -/
def clearDone (s : State) : State := { s with done := false }

/-- The data a read puts on `bus_rdata` (R60). -/
def setRdata (v : RegWord) (s : State) : State := { s with rdata := v }

/-! ### Parts of a clock cycle -/

/-- The level of `line_i` in this cycle. -/
def pinNow (s : State) : Bool := s.lineIn.headD (Config.freeLine s.cycleNo)

/-- R50: the synchroniser after the edge. -/
def syncNext (s : State) : List Bool := (pinNow s :: s.sync).take s.cfg.syncStages

/-- R49: the prescaler after an edge that accepts no START. -/
def prescNext (s : State) : Nat := if isTick s then 0 else s.presc + 1

/-- R60 after its tick: synchroniser and prescaler move on from the pre-edge state `s`, and `bus_rdata` reads 0
unless the cycle's transaction is a read. -/
def finishEdge (s s1 : State) : State :=
  { s1 with sync := syncNext s, presc := prescNext s, rdata := 0#32, lineIn := s.lineIn.tail, cycleNo := s.cycleNo + 1 }

/-! ### The inputs of the coming cycle -/

/-- `rst_n` in this cycle. -/
def rstNow (s : State) : Bool := s.rstIn.headD true

/-- The host's statement of this cycle. -/
def hostNow (s : State) : HostOp := s.hostIn.headD .nop

/-- Takes this cycle's `rst_n` and host statement off the inputs; a WAITDONE stays until it reads DONE = 1. -/
def takeInputs (s : State) : State :=
  { s with rstIn := s.rstIn.tail, hostIn := if hostNow s = .waitDone then s.hostIn else s.hostIn.tail }

/-- The instruction the host's statement issues: WAITDONE issues `RD STATUS` (R141). -/
def fetch (s : State) : Instr :=
  match hostNow s with
  | .txn t => decode (.bus t)
  | .nop => decode .noTxn
  | .waitDone => .rdStatus 0#2 0#32

/-- R141: a WAITDONE ends with the read that has bit 3 = 1. -/
def retire (op : HostOp) (s : State) : State :=
  match op with
  | .waitDone => if s.rdata.getLsbD 3 then { s with hostIn := s.hostIn.tail } else s
  | .txn _ | .nop => s

/-- R390: a cycle with `rst_n = 0`: every element has its reset value, no transaction takes effect, no tick runs. -/
def resetCycle (s : State) : State :=
  { State.resetWith s.cfg (s.cycleNo + 1) with
    rstIn := (takeInputs s).rstIn, hostIn := (takeInputs s).hostIn, lineIn := s.lineIn.tail }

end Sys2Proof.Machine
end

