-- ==== Sys2Proof/Machine/Checksum.lean ====
section
/-! DEFINITION. Checksum validator and terminal states: one tick in CHECKSUM_CHECK, SUCCESS, TIMEOUT, CHKERR (spec file 45) and in a reserved state (R116). -/

namespace Sys2Proof.Machine

/-- R310: validate the frame and finish the exchange. -/
def tickChecksumCheck (s : State) : State :=
  let s := countTick s
  if deadlinePassed s then raiseTimeout .checksumCheck s
  else if checksumOk s.buf then enterSuccess s
  else raiseChecksumError s

/-- R315: a tick in SUCCESS changes nothing. -/
def tickSuccess (s : State) : State := s
/-- R316: a tick in TIMEOUT changes nothing. -/
def tickTimeout (s : State) : State := s
/-- R317: a tick in CHKERR changes nothing. -/
def tickChkerr (s : State) : State := s
/-- R116: a reserved code is treated as IDLE, and a tick leaves it unchanged. -/
def tickRsvdState (s : State) : State := s

/-- CHECKSUM_CHECK (R310). -/
def execChecksumCheck (s : State) : Host.Outcome State Fault Refusal := .next (tickChecksumCheck s)
/-- SUCCESS (R315). -/
def execSuccess (s : State) : Host.Outcome State Fault Refusal := .next (tickSuccess s)
/-- TIMEOUT (R316). -/
def execTimeout (s : State) : Host.Outcome State Fault Refusal := .next (tickTimeout s)
/-- CHKERR (R317). -/
def execChkerr (s : State) : Host.Outcome State Fault Refusal := .next (tickChkerr s)
/-- RSVD_STATE (R116): the same in each of the four codes. -/
def execRsvdState (_low : BitVec 2) (s : State) : Host.Outcome State Fault Refusal := .next (tickRsvdState s)

end Sys2Proof.Machine
end

