-- ==== Sys2Proof/Machine/Handshake.lean ====
section
/-! DEFINITION. Response-edge detector: one tick in each handshake state (spec file 42). -/

namespace Sys2Proof.Machine

/-- R233: wait for the sensor to pull the line low. -/
def tickAwaitReleaseHigh (l : Bool) (s : State) : State := waitWhile .awaitReleaseHigh true .awaitAckLow l s
/-- R234: wait out the acknowledgement-low pulse. -/
def tickAwaitAckLow (l : Bool) (s : State) : State := waitWhile .awaitAckLow false .awaitAckHigh l s
/-- R235: wait out the acknowledgement-high pulse. -/
def tickAwaitAckHigh (l : Bool) (s : State) : State := waitWhile .awaitAckHigh true .bitWaitLow l s

/-- AWAIT_RELEASE_HIGH (R233). -/
def execAwaitReleaseHigh (s : State) : Host.Outcome State Fault Refusal := .next (tickAwaitReleaseHigh (lin s) s)
/-- AWAIT_ACK_LOW (R234). -/
def execAwaitAckLow (s : State) : Host.Outcome State Fault Refusal := .next (tickAwaitAckLow (lin s) s)
/-- AWAIT_ACK_HIGH (R235). -/
def execAwaitAckHigh (s : State) : Host.Outcome State Fault Refusal := .next (tickAwaitAckHigh (lin s) s)

end Sys2Proof.Machine
end

