-- ==== Sys2Proof/Machine/Sampler.lean ====
section
/-! DEFINITION. Pulse-width timer, sampler and bit assembler: one tick in BIT_WAIT_LOW and BIT_MEASURE_HIGH (spec files 43, 44). -/

namespace Sys2Proof.Machine

/-- R262: wait out the low period; the first high sample is counted. -/
def tickBitWaitLow (l : Bool) (s : State) : State :=
  let s := countTick s
  if deadlinePassed s then raiseTimeout .bitWaitLow s
  else if l then { s with pulseCnt := 1, state := .bitMeasureHigh }
  else s

/-- R263: count the high pulse up to the cap, then classify and store the bit.
Every read is of the pre-tick value. -/
def tickBitMeasureHigh (l : Bool) (s : State) : State :=
  let s := countTick s
  if deadlinePassed s then raiseTimeout .bitMeasureHigh s
  else if l then
    if s.cfg.pulseCap < s.pulseCnt + 1 then raiseTimeout .bitMeasureHigh s
    else { s with pulseCnt := s.pulseCnt + 1 }
  else
    { s with
      buf := assemble s.buf s.bitIdx (classify s.cfg s.pulseCnt)
      bitIdx := s.bitIdx + 1
      state := if s.bitIdx = Config.nbits - 1 then .checksumCheck else .bitWaitLow }

/-- BIT_WAIT_LOW (R262). -/
def execBitWaitLow (s : State) : Host.Outcome State Fault Refusal := .next (tickBitWaitLow (lin s) s)
/-- BIT_MEASURE_HIGH (R263). -/
def execBitMeasureHigh (s : State) : Host.Outcome State Fault Refusal := .next (tickBitMeasureHigh (lin s) s)

end Sys2Proof.Machine
end

