-- ==== Sys2Proof/Machine/StartPulse.lean ====
section
/-! DEFINITION. Line driver and start-pulse driver: one tick in IDLE, START_LOW and START_HIGH (spec file 41). -/

namespace Sys2Proof.Machine

/-- R202: nothing changes, and `elapsed` does not count. -/
def tickIdle (s : State) : State := s

/-- R203: the line stays low for `START_LOW_US` ticks, then is driven high. -/
def tickStartLow (s : State) : State :=
  let s := countTick s
  if s.phaseCnt + 1 = s.cfg.startLowUs then { s with state := .startHigh, lineO := true, phaseCnt := 0 }
  else { s with phaseCnt := s.phaseCnt + 1 }

/-- R204: the line stays high for `START_HIGH_US` ticks, then is released. -/
def tickStartHigh (s : State) : State :=
  let s := countTick s
  if s.phaseCnt + 1 = s.cfg.startHighUs then { s with state := .awaitReleaseHigh, lineOe := false, phaseCnt := 0 }
  else { s with phaseCnt := s.phaseCnt + 1 }

/-- IDLE (R202). -/
def execIdle (s : State) : Host.Outcome State Fault Refusal := .next (tickIdle s)
/-- START_LOW (R203). -/
def execStartLow (s : State) : Host.Outcome State Fault Refusal := .next (tickStartLow s)
/-- START_HIGH (R204). -/
def execStartHigh (s : State) : Host.Outcome State Fault Refusal := .next (tickStartHigh s)

end Sys2Proof.Machine
end

