-- ==== Sys2Proof/Machine/Cycle.lean ====
section
/-! DEFINITION. The tick of the FSM (R61), the clock cycle around it (R60), and the cycle with no transaction. -/

namespace Sys2Proof.Machine

/-- R61: `TickStep(s, lin)`, the rule of the current state. -/
def tickStep (s : State) (l : Bool) : State :=
  match s.state with
  | .idle => tickIdle s
  | .startLow => tickStartLow s
  | .startHigh => tickStartHigh s
  | .awaitReleaseHigh => tickAwaitReleaseHigh l s
  | .awaitAckLow => tickAwaitAckLow l s
  | .awaitAckHigh => tickAwaitAckHigh l s
  | .bitWaitLow => tickBitWaitLow l s
  | .bitMeasureHigh => tickBitMeasureHigh l s
  | .checksumCheck => tickChecksumCheck s
  | .success => tickSuccess s
  | .timeout => tickTimeout s
  | .chkerr => tickChkerr s
  | .rsvd _ => tickRsvdState s

/-- R62: the FSM alone, with the tick as the unit of time and the samples `lin` as a free input. -/
def runTicks (samples : List Bool) (s : State) : State := samples.foldl tickStep s

/-- R60 but for the transaction: the state after an edge, with its tick if it is one. -/
def clockEdge (s : State) : State := finishEdge s (if isTick s then tickStep s (lin s) else s)

/-- R60 with a read: the data is of the pre-edge state (R85, R150). -/
def readCycle (view : RegWord) (s : State) : State := setRdata view (clockEdge s)

/-- R60 with a write: its effect sees the pre-edge state and the state after the edge's tick. -/
def writeCycle (effect : State → State → State) (s : State) : State := effect s (clockEdge s)

/-- NOP (R140): one cycle with `bus_valid = 0`. -/
def execNop (s : State) : Host.Outcome State Fault Refusal := .next (clockEdge s)

end Sys2Proof.Machine
end

