-- ==== Sys2Proof/Machine/HostRead.lean ====
section
/-! DEFINITION. The host's reads (R162 to R170): one clock cycle each, `ADDR[1:0]` and `WDATA` ignored (R83, R110). -/

namespace Sys2Proof.Machine

/-- RD_CTRL (R162). -/
def execRdCtrl (_lane : BitVec 2) (_wdata : RegWord) (s : State) : Host.Outcome State Fault Refusal :=
  .next (readCycle (ctrlView s) s)
/-- RD_STATUS (R163). -/
def execRdStatus (_lane : BitVec 2) (_wdata : RegWord) (s : State) : Host.Outcome State Fault Refusal :=
  .next (readCycle (statusView s) s)
/-- RD_RAW0 (R164). -/
def execRdRaw0 (_lane : BitVec 2) (_wdata : RegWord) (s : State) : Host.Outcome State Fault Refusal :=
  .next (readCycle (raw0View s) s)
/-- RD_RAW1 (R165). -/
def execRdRaw1 (_lane : BitVec 2) (_wdata : RegWord) (s : State) : Host.Outcome State Fault Refusal :=
  .next (readCycle (raw1View s) s)
/-- RD_HUM (R166). -/
def execRdHum (_lane : BitVec 2) (_wdata : RegWord) (s : State) : Host.Outcome State Fault Refusal :=
  .next (readCycle (humView s) s)
/-- RD_TEMP (R167). -/
def execRdTemp (_lane : BitVec 2) (_wdata : RegWord) (s : State) : Host.Outcome State Fault Refusal :=
  .next (readCycle (tempView s) s)
/-- RD_TEMPS (R168). -/
def execRdTemps (_lane : BitVec 2) (_wdata : RegWord) (s : State) : Host.Outcome State Fault Refusal :=
  .next (readCycle (tempsView s) s)
/-- RD_RSVD (R170). -/
def execRdRsvd (_slot : BitVec 6) (_lane : BitVec 2) (_wdata : RegWord) (s : State) :
    Host.Outcome State Fault Refusal :=
  .next (readCycle 0#32 s)

end Sys2Proof.Machine
end

