-- ==== Sys2Proof/Machine/HostWrite.lean ====
section
/-! DEFINITION. The host's writes (R152 to R161, R171): one clock cycle each, `ADDR[1:0]` ignored; and R60's cycle as one function of the transaction word. -/

namespace Sys2Proof.Machine

/-! ### Write effects on the state after the tick, `s` the pre-edge state -/

/-- R152: IE is written; the START is accepted unless the pre-edge state is busy. -/
def ctrlStartEffect (v : RegWord) (s s1 : State) : State :=
  if busy s then setIe (ieOperand v) s1 else startAccept (setIe (ieOperand v) s1)

/-- R153: IE is written. -/
def ctrlNostartEffect (v : RegWord) (_s s1 : State) : State := setIe (ieOperand v) s1

/-- R155: DONE is cleared, unless this cycle's tick entered a terminal state. -/
def statusEffect (v : RegWord) (s s1 : State) : State :=
  if doneClrOperand v && !(busy s && !busy s1) then clearDone s1 else s1

/-- R157 to R161, R171: a write to a read-only or reserved register has no effect. -/
def ignoredEffect (_s s1 : State) : State := s1

/-! ### The meanings -/

/-- WR_CTRL_START (R152). -/
def execWrCtrlStart (_lane : BitVec 2) (wdata : RegWord) (s : State) : Host.Outcome State Fault Refusal :=
  .next (writeCycle (ctrlStartEffect wdata) s)
/-- WR_CTRL_NOSTART (R153). -/
def execWrCtrlNostart (_lane : BitVec 2) (wdata : RegWord) (s : State) : Host.Outcome State Fault Refusal :=
  .next (writeCycle (ctrlNostartEffect wdata) s)
/-- WR_STATUS (R155). -/
def execWrStatus (_lane : BitVec 2) (wdata : RegWord) (s : State) : Host.Outcome State Fault Refusal :=
  .next (writeCycle (statusEffect wdata) s)
/-- WR_RAW0 (R157). -/
def execWrRaw0 (_lane : BitVec 2) (_wdata : RegWord) (s : State) : Host.Outcome State Fault Refusal :=
  .next (writeCycle ignoredEffect s)
/-- WR_RAW1 (R158). -/
def execWrRaw1 (_lane : BitVec 2) (_wdata : RegWord) (s : State) : Host.Outcome State Fault Refusal :=
  .next (writeCycle ignoredEffect s)
/-- WR_HUM (R159). -/
def execWrHum (_lane : BitVec 2) (_wdata : RegWord) (s : State) : Host.Outcome State Fault Refusal :=
  .next (writeCycle ignoredEffect s)
/-- WR_TEMP (R160). -/
def execWrTemp (_lane : BitVec 2) (_wdata : RegWord) (s : State) : Host.Outcome State Fault Refusal :=
  .next (writeCycle ignoredEffect s)
/-- WR_TEMPS (R161). -/
def execWrTemps (_lane : BitVec 2) (_wdata : RegWord) (s : State) : Host.Outcome State Fault Refusal :=
  .next (writeCycle ignoredEffect s)
/-- WR_RSVD (R171). -/
def execWrRsvd (_slot : BitVec 6) (_lane : BitVec 2) (_wdata : RegWord) (s : State) :
    Host.Outcome State Fault Refusal :=
  .next (writeCycle ignoredEffect s)

/-! ### R60 and R151 as they are written, over the transaction word -/

/-- R151: `WriteEffect(s, s1, addr, v)`, also `MemWrite(addr, 4, v)` (R86). -/
def writeEffect (s s1 : State) (addr : BusAddr) (v : RegWord) : State :=
  match (addrSlot addr).toNat with
  | 0 => if startOperand v then ctrlStartEffect v s s1 else ctrlNostartEffect v s s1
  | 1 => statusEffect v s s1
  | _ => s1

/-- R60: `Cycle(s, t, pin)` with `pin` the next level of `line_i`. -/
def cycle (s : State) (t : Option TxnWord) : State :=
  let rdata := match t with
    | some w => if txnWrite w then 0#32 else regRead s (txnAddr w)
    | none => 0#32
  let s1 := if isTick s then tickStep s (lin s) else s
  let s1 := finishEdge s s1
  let s1 := match t with
    | some w => if txnWrite w then writeEffect s s1 (txnAddr w) (txnData w) else s1
    | none => s1
  setRdata rdata s1

end Sys2Proof.Machine
end

