-- ==== Sys2Proof/Machine/Dispatch.lean ====
section
/-! DEFINITION. The meaning of every instruction. -/

namespace Sys2Proof.Machine

-- A transaction or a NOP is one whole clock cycle (R110, R140); an FSM row is one tick (R136; log entry 8).
def exec (i : Instr) (s : State) : Host.Outcome State Fault Refusal :=
  match i with
  | .rdCtrl lane wdata => Sys2Proof.Machine.execRdCtrl lane wdata s
  | .rdStatus lane wdata => Sys2Proof.Machine.execRdStatus lane wdata s
  | .rdRaw0 lane wdata => Sys2Proof.Machine.execRdRaw0 lane wdata s
  | .rdRaw1 lane wdata => Sys2Proof.Machine.execRdRaw1 lane wdata s
  | .rdHum lane wdata => Sys2Proof.Machine.execRdHum lane wdata s
  | .rdTemp lane wdata => Sys2Proof.Machine.execRdTemp lane wdata s
  | .rdTemps lane wdata => Sys2Proof.Machine.execRdTemps lane wdata s
  | .rdRsvd slot lane wdata => Sys2Proof.Machine.execRdRsvd slot lane wdata s
  | .wrCtrlStart lane wdata => Sys2Proof.Machine.execWrCtrlStart lane wdata s
  | .wrCtrlNostart lane wdata => Sys2Proof.Machine.execWrCtrlNostart lane wdata s
  | .wrStatus lane wdata => Sys2Proof.Machine.execWrStatus lane wdata s
  | .wrRaw0 lane wdata => Sys2Proof.Machine.execWrRaw0 lane wdata s
  | .wrRaw1 lane wdata => Sys2Proof.Machine.execWrRaw1 lane wdata s
  | .wrHum lane wdata => Sys2Proof.Machine.execWrHum lane wdata s
  | .wrTemp lane wdata => Sys2Proof.Machine.execWrTemp lane wdata s
  | .wrTemps lane wdata => Sys2Proof.Machine.execWrTemps lane wdata s
  | .wrRsvd slot lane wdata => Sys2Proof.Machine.execWrRsvd slot lane wdata s
  | .nop => Sys2Proof.Machine.execNop s
  | .idle => Sys2Proof.Machine.execIdle s
  | .startLow => Sys2Proof.Machine.execStartLow s
  | .startHigh => Sys2Proof.Machine.execStartHigh s
  | .awaitReleaseHigh => Sys2Proof.Machine.execAwaitReleaseHigh s
  | .awaitAckLow => Sys2Proof.Machine.execAwaitAckLow s
  | .awaitAckHigh => Sys2Proof.Machine.execAwaitAckHigh s
  | .bitWaitLow => Sys2Proof.Machine.execBitWaitLow s
  | .bitMeasureHigh => Sys2Proof.Machine.execBitMeasureHigh s
  | .checksumCheck => Sys2Proof.Machine.execChecksumCheck s
  | .success => Sys2Proof.Machine.execSuccess s
  | .timeout => Sys2Proof.Machine.execTimeout s
  | .chkerr => Sys2Proof.Machine.execChkerr s
  | .rsvdState low => Sys2Proof.Machine.execRsvdState low s

end Sys2Proof.Machine
end

