-- ==== Sys2Proof/Machine/Params.lean ====
section
/-! DEFINITION. The legal ranges of the parameters (R10, R11), the counter widths they give (R12), and the host address map (R82). -/

namespace Sys2Proof.Machine

/-- R10's legal ranges with R11's constraint on the deadline.
`PULSE_CAP ≥ 1` is the general form of its range (log entry 6). -/
def configLegal (c : Config) : Bool :=
  decide (1 ≤ c.clkPerTick) && decide (2 ≤ c.syncStages) && decide (20000 ≤ c.startLowUs)
    && decide (40 ≤ c.startHighUs) && decide (c.startHighUs ≤ 50)
    && decide (c.startLowUs + c.startHighUs + 1 ≤ c.deadlineUs)
    && decide (1 ≤ c.pulseCap) && decide (c.bitThreshold < c.pulseCap)

/-- The least `N` with `2^N` above the largest value a counter holds (R12, R43). -/
def counterWidth (largest : Nat) : Nat := if largest = 0 then 0 else Nat.log2 largest + 1

/-- R43: the width of `elapsed`. -/
def elapsedWidth (c : Config) : Nat := counterWidth (c.deadlineUs + 1)
/-- R45: the width of `phase_cnt`. -/
def phaseWidth (c : Config) : Nat := counterWidth (max c.startLowUs c.startHighUs - 1)
/-- R46: the width of `pulse_cnt`. -/
def pulseWidth (c : Config) : Nat := counterWidth c.pulseCap
/-- R47: the width of `bit_idx`. -/
def bitIdxWidth : Nat := counterWidth Config.nbits
/-- R365: the width of `presc`. -/
def prescWidth (c : Config) : Nat := counterWidth (c.clkPerTick - 1)

/-- R82: the register offset a host address reaches, if it lies in the block's 256 bytes. -/
def regOffset (c : Config) (hostAddr : Nat) : Option BusAddr :=
  if c.dhtdecBase ≤ hostAddr ∧ hostAddr < c.dhtdecBase + 256 then
    some (BitVec.ofNat 8 (hostAddr - c.dhtdecBase))
  else none

end Sys2Proof.Machine
end

