-- ==== Sys2Proof/Machine/Step.lean ====
section
/-! DEFINITION. One step of the machine: one clock cycle, with its reset input, its host statement and its tick. -/

namespace Sys2Proof.Machine

/-- One clock cycle (R7, R60, R390): nothing for parameters outside their legal ranges (R11), the reset values while
`rst_n = 0`, else the instruction the host issues. -/
def step (s : State) : Host.Outcome State Fault Refusal :=
  if configLegal s.cfg then
    if rstNow s then
      match exec (fetch s) (takeInputs s) with
      | .next s' => .next (retire (hostNow s) s')
      | .fault r => .fault r
      | .refused r => .refused r
    else .next (resetCycle s)
  else .refused .illegalConfig

/-- `s` with the word placed so that the next step runs it: a transaction or a NOP as the host's next statement, a state
code in the FSM state register with the next cycle a tick and no transaction in it.
Bytes that hold no word change nothing (log entry 13). -/
def State.withFetchWord (s : State) (nbits w : Nat) : State :=
  match tableWord nbits w with
  | .ok (.bus t) => { s with rstIn := true :: s.rstIn.tail, hostIn := .txn t :: s.hostIn.tail }
  | .ok .noTxn => { s with rstIn := true :: s.rstIn.tail, hostIn := .nop :: s.hostIn.tail }
  | .ok (.fsm c) =>
    { s with
      state := stateOfCode c, presc := s.cfg.clkPerTick - 1,
      rstIn := true :: s.rstIn.tail, hostIn := .nop :: s.hostIn.tail }
  | .error _ => s

end Sys2Proof.Machine
end

