-- ==== Sys2Proof/Machine/Assembler.lean ====
section
/-! DEFINITION. The spec's assembler: statements, pseudo-instructions and line stimulus (R140 to R142). -/

namespace Sys2Proof.Machine

/-! ### Register names (R81, R140) -/

/-- CTRL. -/
def addrCtrl : BusAddr := 0x00#8
/-- STATUS. -/
def addrStatus : BusAddr := 0x04#8
/-- RAW0. -/
def addrRaw0 : BusAddr := 0x08#8
/-- RAW1. -/
def addrRaw1 : BusAddr := 0x0C#8
/-- HUM. -/
def addrHum : BusAddr := 0x10#8
/-- TEMP. -/
def addrTemp : BusAddr := 0x14#8
/-- TEMP_S. -/
def addrTempS : BusAddr := 0x18#8

/-! ### Statements (R140) -/

/-- `RD <reg>`: `W = 0`, `WDATA = 0`. -/
def asmRd (a : BusAddr) : HostOp := .txn (txnWord false (addrSlot a) (addrLane a) 0#32)
/-- `WR <reg>, <imm32>`. -/
def asmWr (a : BusAddr) (v : RegWord) : HostOp := .txn (txnWord true (addrSlot a) (addrLane a) v)
/-- `NOP`. -/
def asmNop : HostOp := .nop

/-! ### Pseudo-instructions (R141) -/

/-- `START`. -/
def asmStart : HostOp := asmWr addrCtrl 0x1#32
/-- `STARTI`. -/
def asmStartI : HostOp := asmWr addrCtrl 0x3#32
/-- `ACK`. -/
def asmAck : HostOp := asmWr addrStatus 0x8#32
/-- `WAITDONE`. -/
def asmWaitDone : HostOp := .waitDone
/-- `READ`: DOC0's `read()`, one exchange and its result (R172). -/
def asmRead : List HostOp := [asmStart, asmWaitDone, asmRd addrHum, asmRd addrTempS]

/-! ### Line stimulus (R142) -/

/-- `H^n` and `L^n` runs as the samples of consecutive ticks. -/
def lineRuns (runs : List (Bool × Nat)) : List Bool := runs.flatMap fun r => List.replicate r.2 r.1

end Sys2Proof.Machine
end

