-- ==== Sys2Proof/Machine/Float32.lean ====
section
/-! DEFINITION. The host-side f32 values of R325, as binary32 bit patterns. -/

namespace Sys2Proof.Machine

/-- `n / d` rounded to the nearest natural number, ties to even. -/
def divNearestEven (n d : Nat) : Nat :=
  let q := n / d
  let r := n % d
  if d < 2 * r ∨ (2 * r = d ∧ q % 2 = 1) then q + 1 else q

/-- `RNE_f32(num / den)`: the bits of the IEEE 754 binary32 value nearest to a rational of at least 0 (R325).
The significand counts units of `2^(shift - 149)`; adding `shift` in the exponent field carries a rounding up to
the next power of two, and a value too large reads infinity. -/
def rneF32 (num den : Nat) : BitVec 32 :=
  let scaled := num * 2 ^ 149
  let shift := Nat.log2 (scaled / den) - 23
  BitVec.ofNat 32 (min (shift * 2 ^ 23 + divNearestEven scaled (den * 2 ^ shift)) 0x7F800000)

/-- R325: `humidity_f32`. -/
def humidityF32 (f : Frame) : BitVec 32 := rneF32 (hum10 f).toNat 10

/-- R325: `temperature_f32`; `negate` flips the IEEE sign bit, so a negative zero is -0.0. -/
def temperatureF32 (f : Frame) : BitVec 32 :=
  if tempNeg f then rneF32 (tempMag10 f).toNat 10 ^^^ 0x80000000#32 else rneF32 (tempMag10 f).toNat 10

end Sys2Proof.Machine
end

