-- ==== Sys2Proof/Safety.lean ====
section
/-! DEFINITION. What a sound state of DHTDEC is: the invariant of every run from reset, in the spec's terms. -/

namespace Sys2Proof.Machine

/-- No result is shown: RESULT, DONE, FAIL_STATE and the outputs are clear (R52, R53, R55, R56). -/
def noResult (s : State) : Prop :=
  s.result = resultNone ∧ s.done = false ∧ s.failState = 0#4 ∧ s.out = Frame.zero

/-- No data bit has been received in this exchange (R46 to R48, R154). -/
def noBits (s : State) : Prop := s.bitIdx = 0 ∧ s.pulseCnt = 0 ∧ s.buf = Frame.zero

/-- The ticks of the start pulse (R206). -/
def startTicks (c : Config) : Nat := c.startLowUs + c.startHighUs

/-- After the start pulse, with the deadline not exceeded (R44, R231). -/
def waiting (s : State) : Prop :=
  s.phaseCnt = 0 ∧ startTicks s.cfg ≤ s.elapsed ∧ s.elapsed ≤ s.cfg.deadlineUs

/-- What holds in each FSM state besides the lines. -/
def phaseInv (s : State) : Prop :=
  match s.state with
  | .idle => noResult s ∧ noBits s ∧ s.phaseCnt = 0 ∧ s.elapsed = 0
  | .startLow => noResult s ∧ noBits s ∧ s.elapsed = s.phaseCnt ∧ s.phaseCnt < s.cfg.startLowUs
  | .startHigh =>
    noResult s ∧ noBits s ∧ s.elapsed = s.cfg.startLowUs + s.phaseCnt ∧ s.phaseCnt < s.cfg.startHighUs
  | .awaitReleaseHigh | .awaitAckLow | .awaitAckHigh => noResult s ∧ noBits s ∧ waiting s
  | .bitWaitLow => noResult s ∧ waiting s ∧ s.bitIdx < Config.nbits ∧ s.pulseCnt ≤ s.cfg.pulseCap
  | .bitMeasureHigh =>
    noResult s ∧ waiting s ∧ s.bitIdx < Config.nbits ∧ 1 ≤ s.pulseCnt ∧ s.pulseCnt ≤ s.cfg.pulseCap
  | .checksumCheck =>
    noResult s ∧ waiting s ∧ s.bitIdx = Config.nbits ∧ 1 ≤ s.pulseCnt ∧ s.pulseCnt ≤ s.cfg.pulseCap
  | .success =>
    s.result = resultSuccess ∧ s.failState = 0#4 ∧ s.out = s.buf ∧ checksumOk s.buf = true ∧ waiting s
      ∧ s.bitIdx = Config.nbits ∧ s.pulseCnt ≤ s.cfg.pulseCap
  | .timeout =>
    s.result = resultTimeout ∧ 3 ≤ s.failState.toNat ∧ s.failState.toNat ≤ 8 ∧ s.out = Frame.zero
      ∧ s.phaseCnt = 0 ∧ s.elapsed ≤ s.cfg.deadlineUs + 1 ∧ s.bitIdx ≤ Config.nbits ∧ s.pulseCnt ≤ s.cfg.pulseCap
  | .chkerr =>
    s.result = resultChkerr ∧ s.failState = 8#4 ∧ s.out = Frame.zero ∧ checksumOk s.buf = false ∧ waiting s
      ∧ s.bitIdx = Config.nbits ∧ s.pulseCnt ≤ s.cfg.pulseCap
  | .rsvd _ => False

/-- The invariant of a DHTDEC that was reset: legal parameters (R11), a synchroniser of `SYNC_STAGES` flops (R50),
a prescaler within its tick (R49), the line driven in the start pulse alone and low in START_LOW alone (R201, R42),
and each FSM state's own facts, no reserved code among them (R116). -/
structure StateInv (s : State) : Prop where
  legal : configLegal s.cfg = true
  syncLength : s.sync.length = s.cfg.syncStages
  prescaler : s.presc < s.cfg.clkPerTick
  lineDriven : s.lineOe = true ↔ s.state = .startLow ∨ s.state = .startHigh
  lineLow : s.lineO = false ↔ s.state = .startLow
  phase : phaseInv s

/-- No reset is asserted in the coming cycles. -/
def noReset (s : State) : Prop := ∀ b ∈ s.rstIn, b = true

/-- One data bit on the wire as samples: `lowExtra` further low samples, `high` high samples, and the low sample that ends
the pulse (R118, R263). -/
structure Pulse where
  lowExtra : Nat
  high : Nat
  deriving DecidableEq, Repr

/-- The samples of a data bit. -/
def Pulse.samples (p : Pulse) : List Bool :=
  List.replicate p.lowExtra false ++ List.replicate p.high true ++ [false]

/-- The number whose binary digits are `bits`, the first the most significant (R292). -/
def msbFirst (bits : List Bool) : Nat := bits.foldl (fun n b => 2 * n + b.toNat) 0

end Sys2Proof.Machine
end

