-- ==== Sys2Proof/Certificates/Slice0/Obligations.lean ====
section
/-! DEFINITION. The statements about DHTDEC that the provers are asked to prove. -/

open Sys2Proof Sys2Proof.Machine

/-! ### Encoding -/

/-- Words written out from R110, R112 and R115 decode to the instructions they stand for.
`STARTI` is T[40] = 1, ADDR = 0x00, WDATA = 3; `ACK` is T[40] = 1, ADDR = 0x04, WDATA = 8. -/
def Obligations.WrittenWordsDecodeToTheirInstructions : Prop :=
  decode (.bus 0b1_00000000_00000000000000000000000000000011#41) = .wrCtrlStart 0#2 3#32
  ∧ decode (.bus 0b1_00000000_00000000000000000000000000000010#41) = .wrCtrlNostart 0#2 2#32
  ∧ decode (.bus 0b1_00000100_00000000000000000000000000001000#41) = .wrStatus 0#2 8#32
  ∧ decode (.bus 0b0_00000110_00000000000000000000000000000000#41) = .rdStatus 2#2 0#32
  ∧ decode (.bus 0b0_00010000_00000000000000000000000000000000#41) = .rdHum 0#2 0#32
  ∧ decode (.bus 0b1_00001000_11111111111111111111111111111111#41) = .wrRaw0 0#2 0xFFFFFFFF#32
  ∧ decode (.bus 0b0_00011100_00000000000000000000000000000000#41) = .rdRsvd 7#6 0#2 0#32
  ∧ decode (.bus 0b1_11111100_00000000000000000000000000000001#41) = .wrRsvd 63#6 0#2 1#32
  ∧ decode (.fsm 0b0001#4) = .startLow ∧ decode (.fsm 0b0011#4) = .awaitReleaseHigh
  ∧ decode (.fsm 0b0111#4) = .bitMeasureHigh ∧ decode (.fsm 0b1011#4) = .chkerr
  ∧ decode (.fsm 0b1110#4) = .rsvdState 2#2 ∧ decode .noTxn = .nop

/-- Every well-formed instruction is read back from its word, with every operand it has. -/
def Obligations.DecodeOfEncodeIsTheInstruction : Prop :=
  ∀ i : Instr, wellFormed i = true → decode (encode i) = i

/-- Every transaction word and every state code is exactly one row: it decodes to a well-formed instruction whose word it is,
and to no other (R111, R115). -/
def Obligations.EveryWordIsExactlyOneInstruction : Prop :=
  ∀ w : Word, wellFormed (decode w) = true ∧ encode (decode w) = w
    ∧ ∀ i : Instr, wellFormed i = true → encode i = w → i = decode w

/-! ### The step and the cycle -/

/-- A step runs the instruction of the host's next statement, and takes the statement and the cycle's `rst_n` off the inputs.
The queues of inputs are the model's own (log entries 1 and 11): an ended program issues no transaction, and WAITDONE issues
RD_STATUS and stays until it reads bit 3 = 1 (R141). -/
def Obligations.StepRunsTheInstructionTheHostIssues : Prop :=
  ∀ s : State, configLegal s.cfg = true → s.rstIn.head? ≠ some false →
    (∀ w rest, s.hostIn = .txn w :: rest →
      step s = exec (decode (.bus w)) { s with rstIn := s.rstIn.tail, hostIn := rest })
    ∧ (∀ rest, s.hostIn = .nop :: rest → step s = exec .nop { s with rstIn := s.rstIn.tail, hostIn := rest })
    ∧ (s.hostIn = [] → step s = exec .nop { s with rstIn := s.rstIn.tail })
    ∧ (∀ rest, s.hostIn = .waitDone :: rest →
      ∃ t, exec (.rdStatus 0#2 0#32) { s with rstIn := s.rstIn.tail } = .next t
        ∧ step s = .next (if t.rdata.getLsbD 3 then { t with hostIn := rest } else t))

/-- A cycle with no transaction: in a tick the row of the FSM state register's code runs (R61), and the synchroniser and the
prescaler move on (R49, R50); in any other cycle they alone do. -/
def Obligations.TickRunsTheRowOfTheStateRegister : Prop :=
  ∀ s : State,
    (s.presc + 1 = s.cfg.clkPerTick →
      ∃ u, exec (decode (.fsm s.state.code)) s = .next u
        ∧ exec .nop s = .next { u with
            sync := (s.lineIn.headD (Config.freeLine s.cycleNo) :: s.sync).take s.cfg.syncStages
            presc := 0, rdata := 0#32, lineIn := s.lineIn.tail, cycleNo := s.cycleNo + 1 })
    ∧ (s.presc + 1 ≠ s.cfg.clkPerTick →
      exec .nop s = .next { s with
        sync := (s.lineIn.headD (Config.freeLine s.cycleNo) :: s.sync).take s.cfg.syncStages
        presc := s.presc + 1, rdata := 0#32, lineIn := s.lineIn.tail, cycleNo := s.cycleNo + 1 })

/-- The meaning of every transaction word, and of a cycle without one, is R60's `Cycle` with R85's `RegRead` and R151's
`WriteEffect`.
The queue of line levels, the field `rdata` and the counter `cycleNo` that the cycle carries are the model's choices (log
entries 2, 9 and 18). -/
def Obligations.TransactionsAreCyclesOfTheSpec : Prop :=
  ∀ s : State, (∀ w : TxnWord, exec (decode (.bus w)) s = .next (cycle s (some w)))
    ∧ exec .nop s = .next (cycle s none)

/-- Every transaction to any address completes in its cycle with no fault (R89), and a block with legal parameters always has
a next cycle. -/
def Obligations.EveryTransactionCompletes : Prop :=
  (∀ (w : TxnWord) (s : State), ∃ t, exec (decode (.bus w)) s = .next t)
  ∧ ∀ s : State, configLegal s.cfg = true → ∃ t, step s = .next t

/-- A configuration outside the legal ranges of R10 is refused, and no other is (R11).
That the refusal is the step's, and that PULSE_CAP has no upper bound, are the model's choices (log entries 5 and 6). -/
def Obligations.IllegalConfigurationIsRefused : Prop :=
  ∀ s : State, step s = .refused .illegalConfig ↔
    ¬ (1 ≤ s.cfg.clkPerTick ∧ 2 ≤ s.cfg.syncStages ∧ 20000 ≤ s.cfg.startLowUs
      ∧ 40 ≤ s.cfg.startHighUs ∧ s.cfg.startHighUs ≤ 50
      ∧ s.cfg.startLowUs + s.cfg.startHighUs + 1 ≤ s.cfg.deadlineUs
      ∧ 1 ≤ s.cfg.pulseCap ∧ s.cfg.bitThreshold < s.cfg.pulseCap)

/-- R63's reset values, for every configuration; the synchroniser holds `SYNC_STAGES` bits of any value. -/
def Obligations.ResetValues : Prop :=
  ∀ (c : Config) (n : Nat), ∃ s, s = State.resetWith c n
    ∧ s.state = .idle ∧ s.lineOe = false ∧ s.lineO = true ∧ s.elapsed = 0 ∧ s.phaseCnt = 0 ∧ s.pulseCnt = 0
    ∧ s.bitIdx = 0 ∧ s.buf = ⟨0#8, 0#8, 0#8, 0#8, 0#8⟩ ∧ s.presc = 0 ∧ s.sync.length = c.syncStages ∧ s.ie = false
    ∧ s.result = 0#2 ∧ s.done = false ∧ s.failState = 0#4 ∧ s.out = ⟨0#8, 0#8, 0#8, 0#8, 0#8⟩
    ∧ busy s = false ∧ irq s = false

/-- A cycle with `rst_n = 0` leaves the reset values whatever ran before, with no transaction's effect and 0 on `bus_rdata`
(R390, R392).
That reset takes one whole cycle is the model's choice (log entry 10). -/
def Obligations.ResetInputAbortsTheExchange : Prop :=
  ∀ (s : State) (rest : List Bool), configLegal s.cfg = true → s.rstIn = false :: rest →
    ∃ t, step s = .next t ∧ t.cfg = s.cfg
      ∧ t.state = .idle ∧ t.lineOe = false ∧ t.lineO = true ∧ t.elapsed = 0 ∧ t.phaseCnt = 0 ∧ t.pulseCnt = 0
      ∧ t.bitIdx = 0 ∧ t.buf = ⟨0#8, 0#8, 0#8, 0#8, 0#8⟩ ∧ t.presc = 0 ∧ t.sync.length = s.cfg.syncStages ∧ t.ie = false
      ∧ t.result = 0#2 ∧ t.done = false ∧ t.failState = 0#4 ∧ t.out = ⟨0#8, 0#8, 0#8, 0#8, 0#8⟩
      ∧ t.rdata = 0#32 ∧ irq t = false ∧ t.rstIn = rest

/-! ### The invariant -/

/-- The invariant holds after reset, for every legal configuration. -/
def Obligations.InvariantAfterReset : Prop :=
  (∀ (c : Config) (n : Nat), configLegal c = true → StateInv (State.resetWith c n)) ∧ StateInv State.reset

/-- Every step keeps the invariant: the line is driven in the start pulse alone (R201), no reserved code is entered (R116),
the counters stay in range, and no partial result is ever shown (R56). -/
def Obligations.StepKeepsTheInvariant : Prop :=
  ∀ s t : State, StateInv s → step s = .next t → StateInv t

/-! ### Host reads: each is the cycle without a transaction, but for the data it puts on `bus_rdata` -/

/-- RD_CTRL and RD_STATUS (R162, R163): their words, the views of the pre-edge state, and no other effect. -/
def Obligations.ControlReadsShowThePreEdgeState : Prop :=
  ∀ (s : State) (lane : BitVec 2) (wdata : RegWord), ∃ t, exec .nop s = .next t
    ∧ decode (.bus (0#1 ++ 0#6 ++ lane ++ wdata)) = .rdCtrl lane wdata
    ∧ decode (.bus (0#1 ++ 1#6 ++ lane ++ wdata)) = .rdStatus lane wdata
    ∧ exec (.rdCtrl lane wdata) s = .next { t with rdata := 0#30 ++ BitVec.ofBool s.ie ++ 0#1 }
    ∧ exec (.rdStatus lane wdata) s = .next { t with
        rdata := 0#12 ++ s.failState ++ 0#2 ++ BitVec.ofNat 6 s.bitIdx ++ s.state.code ++ BitVec.ofBool s.done
            ++ BitVec.ofBool (decide (1 ≤ s.state.code.toNat ∧ s.state.code.toNat ≤ 8)) ++ s.result }

/-- RD_RAW0 and RD_RAW1 (R164, R165): byte `i` of the last good frame sits at bit `8i`; in every FSM state but SUCCESS they
read 0. -/
def Obligations.RawReadsShowTheReceivedBytes : Prop :=
  ∀ (s : State) (lane : BitVec 2) (wdata : RegWord), ∃ t v0 v1, exec .nop s = .next t
    ∧ exec (.rdRaw0 lane wdata) s = .next { t with rdata := v0 }
    ∧ v0.toNat = s.out.b0.toNat + 2 ^ 8 * s.out.b1.toNat + 2 ^ 16 * s.out.b2.toNat + 2 ^ 24 * s.out.b3.toNat
    ∧ exec (.rdRaw1 lane wdata) s = .next { t with rdata := v1 } ∧ v1.toNat = s.out.b4.toNat
    ∧ decode (.bus (0#1 ++ 2#6 ++ lane ++ wdata)) = .rdRaw0 lane wdata
    ∧ decode (.bus (0#1 ++ 3#6 ++ lane ++ wdata)) = .rdRaw1 lane wdata
    ∧ (StateInv s → s.state ≠ .success → v0 = 0#32 ∧ v1 = 0#32)

/-- RD_HUM, RD_TEMP and RD_TEMPS (R166 to R168, R320 to R322): unsigned tenths, sign-magnitude tenths, and two's-complement
tenths, where a negative zero reads 0; in every FSM state but SUCCESS they read 0. -/
def Obligations.ValueReadsShowTenths : Prop :=
  ∀ (s : State) (lane : BitVec 2) (wdata : RegWord), ∃ t h m v, exec .nop s = .next t
    ∧ exec (.rdHum lane wdata) s = .next { t with rdata := h }
    ∧ h.toNat = 256 * s.out.b0.toNat + s.out.b1.toNat
    ∧ exec (.rdTemp lane wdata) s = .next { t with rdata := m }
    ∧ m.toNat = 256 * s.out.b2.toNat + s.out.b3.toNat
    ∧ exec (.rdTemps lane wdata) s = .next { t with rdata := v }
    ∧ v.toInt = (if 128 ≤ s.out.b2.toNat then -1 else 1)
        * ((256 * (s.out.b2.toNat % 128) + s.out.b3.toNat : Nat) : Int)
    ∧ decode (.bus (0#1 ++ 4#6 ++ lane ++ wdata)) = .rdHum lane wdata
    ∧ decode (.bus (0#1 ++ 5#6 ++ lane ++ wdata)) = .rdTemp lane wdata
    ∧ decode (.bus (0#1 ++ 6#6 ++ lane ++ wdata)) = .rdTemps lane wdata
    ∧ (StateInv s → s.state ≠ .success → h = 0#32 ∧ m = 0#32 ∧ v = 0#32)

/-- A read of a reserved slot returns 0 (R170); a write of a reserved slot or of a read-only register has no effect
(R171, R157 to R161). -/
def Obligations.ReservedAndReadOnlyAccessesHaveNoEffect : Prop :=
  ∀ (s : State) (slot : BitVec 6) (lane : BitVec 2) (wdata : RegWord), ∃ t, exec .nop s = .next t
    ∧ exec (.rdRsvd slot lane wdata) s = .next { t with rdata := 0#32 }
    ∧ exec (.wrRsvd slot lane wdata) s = .next t
    ∧ exec (.wrRaw0 lane wdata) s = .next t ∧ exec (.wrRaw1 lane wdata) s = .next t
    ∧ exec (.wrHum lane wdata) s = .next t ∧ exec (.wrTemp lane wdata) s = .next t
    ∧ exec (.wrTemps lane wdata) s = .next t
    ∧ decode (.bus (1#1 ++ 2#6 ++ lane ++ wdata)) = .wrRaw0 lane wdata
    ∧ decode (.bus (1#1 ++ 3#6 ++ lane ++ wdata)) = .wrRaw1 lane wdata
    ∧ decode (.bus (1#1 ++ 4#6 ++ lane ++ wdata)) = .wrHum lane wdata
    ∧ decode (.bus (1#1 ++ 5#6 ++ lane ++ wdata)) = .wrTemp lane wdata
    ∧ decode (.bus (1#1 ++ 6#6 ++ lane ++ wdata)) = .wrTemps lane wdata
    ∧ (7 ≤ slot.toNat → decode (.bus (0#1 ++ slot ++ lane ++ wdata)) = .rdRsvd slot lane wdata
      ∧ decode (.bus (1#1 ++ slot ++ lane ++ wdata)) = .wrRsvd slot lane wdata)

/-! ### Host writes: each is the cycle without a transaction, but for what it writes -/

/-- WR_CTRL_START (R152, R154): IE is written; the START is accepted exactly when the pre-edge state is not busy, and then
everything but the inputs, the synchroniser and the parameters starts afresh. -/
def Obligations.StartIsAcceptedUnlessBusy : Prop :=
  ∀ (s : State) (lane : BitVec 2) (wdata : RegWord), ∃ t, exec .nop s = .next t
    ∧ (wdata.getLsbD 0 = true → decode (.bus (1#1 ++ 0#6 ++ lane ++ wdata)) = .wrCtrlStart lane wdata)
    ∧ ((1 ≤ s.state.code.toNat ∧ s.state.code.toNat ≤ 8) →
      exec (.wrCtrlStart lane wdata) s = .next { t with ie := wdata.getLsbD 1 })
    ∧ (¬ (1 ≤ s.state.code.toNat ∧ s.state.code.toNat ≤ 8) →
      exec (.wrCtrlStart lane wdata) s = .next { t with
        ie := wdata.getLsbD 1, state := .startLow, lineOe := true, lineO := false, elapsed := 0, phaseCnt := 0,
        pulseCnt := 0, bitIdx := 0, buf := ⟨0#8, 0#8, 0#8, 0#8, 0#8⟩, out := ⟨0#8, 0#8, 0#8, 0#8, 0#8⟩,
        result := 0#2, done := false, failState := 0#4, presc := 0 })

/-- WR_CTRL_NOSTART (R153): IE is written and nothing else, and `irq` follows it. -/
def Obligations.ControlWriteWithoutStartSetsTheEnable : Prop :=
  ∀ (s : State) (lane : BitVec 2) (wdata : RegWord), ∃ t, exec .nop s = .next t
    ∧ (wdata.getLsbD 0 = false → decode (.bus (1#1 ++ 0#6 ++ lane ++ wdata)) = .wrCtrlNostart lane wdata)
    ∧ exec (.wrCtrlNostart lane wdata) s = .next { t with ie := wdata.getLsbD 1 }
    ∧ irq { t with ie := wdata.getLsbD 1 } = (t.done && wdata.getLsbD 1)

/-- WR_STATUS (R155): bit 3 clears DONE and nothing else, unless this cycle's tick entered a terminal state; while busy there
is nothing to clear. -/
def Obligations.StatusWriteClearsDoneUnlessJustSet : Prop :=
  ∀ (s : State) (lane : BitVec 2) (wdata : RegWord), ∃ t, exec .nop s = .next t
    ∧ decode (.bus (1#1 ++ 1#6 ++ lane ++ wdata)) = .wrStatus lane wdata
    ∧ (StateInv s → busy s = true → exec (.wrStatus lane wdata) s = .next t)
    ∧ (wdata.getLsbD 3 = false → exec (.wrStatus lane wdata) s = .next t)
    ∧ (busy s = true ∧ busy t = false → exec (.wrStatus lane wdata) s = .next t)
    ∧ (wdata.getLsbD 3 = true ∧ ¬ (busy s = true ∧ busy t = false) →
      exec (.wrStatus lane wdata) s = .next { t with done := false })

/-! ### One tick in each FSM state -/

/-- IDLE, the terminal states and the reserved codes are left unchanged by a tick (R202, R315 to R317, R116). -/
def Obligations.RestingStatesAreUnchangedByATick : Prop :=
  ∀ s : State, busy s = false → ∃ i, decode (.fsm s.state.code) = i ∧ exec i s = .next s
    ∧ (i = .idle ∨ i = .success ∨ i = .timeout ∨ i = .chkerr ∨ ∃ low, i = .rsvdState low)

/-- START_LOW (R203): the last of `START_LOW_US` ticks drives the line high. -/
def Obligations.StartLowTick : Prop :=
  ∀ s : State, s.state = .startLow →
    (s.phaseCnt + 1 = s.cfg.startLowUs → exec .startLow s = .next { s with
      elapsed := min (s.elapsed + 1) (s.cfg.deadlineUs + 1), state := .startHigh, lineO := true, phaseCnt := 0 })
    ∧ (s.phaseCnt + 1 ≠ s.cfg.startLowUs → exec .startLow s = .next { s with
      elapsed := min (s.elapsed + 1) (s.cfg.deadlineUs + 1), phaseCnt := s.phaseCnt + 1 })

/-- START_HIGH (R204): the last of `START_HIGH_US` ticks releases the line. -/
def Obligations.StartHighTick : Prop :=
  ∀ s : State, s.state = .startHigh →
    (s.phaseCnt + 1 = s.cfg.startHighUs → exec .startHigh s = .next { s with
      elapsed := min (s.elapsed + 1) (s.cfg.deadlineUs + 1), state := .awaitReleaseHigh, lineOe := false, phaseCnt := 0 })
    ∧ (s.phaseCnt + 1 ≠ s.cfg.startHighUs → exec .startHigh s = .next { s with
      elapsed := min (s.elapsed + 1) (s.cfg.deadlineUs + 1), phaseCnt := s.phaseCnt + 1 })

/-- The handshake states (R232 to R235): past the deadline each raises Timeout; before it each waits while the sample `l` is
its level, and the other level moves it on; nothing else changes.
AWAIT_ACK_HIGH leads to bit 0. -/
def Obligations.HandshakeTicks : Prop :=
  ∀ (s : State) (l : Bool), s.sync[s.cfg.syncStages - 1]? = some l →
    (s.state = .awaitReleaseHigh → decode (.fsm 3#4) = .awaitReleaseHigh
      ∧ exec .awaitReleaseHigh s = .next (if s.elapsed + 1 ≤ s.cfg.deadlineUs
        then { s with elapsed := s.elapsed + 1, state := if l then .awaitReleaseHigh else .awaitAckLow }
        else { s with elapsed := s.cfg.deadlineUs + 1, state := .timeout, result := 2#2, done := true, failState := 3#4 }))
    ∧ (s.state = .awaitAckLow → decode (.fsm 4#4) = .awaitAckLow
      ∧ exec .awaitAckLow s = .next (if s.elapsed + 1 ≤ s.cfg.deadlineUs
        then { s with elapsed := s.elapsed + 1, state := if l then .awaitAckHigh else .awaitAckLow }
        else { s with elapsed := s.cfg.deadlineUs + 1, state := .timeout, result := 2#2, done := true, failState := 4#4 }))
    ∧ (s.state = .awaitAckHigh → decode (.fsm 5#4) = .awaitAckHigh
      ∧ exec .awaitAckHigh s = .next (if s.elapsed + 1 ≤ s.cfg.deadlineUs
        then { s with elapsed := s.elapsed + 1, state := if l then .awaitAckHigh else .bitWaitLow }
        else { s with elapsed := s.cfg.deadlineUs + 1, state := .timeout, result := 2#2, done := true, failState := 5#4 })
      ∧ (StateInv s → s.bitIdx = 0))

/-- The deadline test comes first in the states 3 to 8 (R231): past it the tick raises Timeout with the state's code (R352),
whatever the line or the frame is, and writes nothing else.
So no sound state after tick `DEADLINE_US` is busy: an exchange has ended by tick `DEADLINE_US + 1`. -/
def Obligations.DeadlineComesFirst : Prop :=
  (∀ s : State, s.cfg.deadlineUs < s.elapsed + 1 →
    ∀ i : Instr, i = decode (.fsm s.state.code) → 3 ≤ s.state.code.toNat → s.state.code.toNat ≤ 8 →
      exec i s = .next { s with
        elapsed := s.cfg.deadlineUs + 1, state := .timeout, result := 2#2, done := true, failState := s.state.code })
  ∧ ∀ s : State, StateInv s → busy s = true → s.elapsed ≤ s.cfg.deadlineUs

/-- BIT_WAIT_LOW (R262): past the deadline Timeout; before it a low sample is waited out, and the first high sample is
counted. -/
def Obligations.BitWaitLowTick : Prop :=
  decode (.fsm 6#4) = .bitWaitLow
  ∧ ∀ (s : State) (l : Bool), s.state = .bitWaitLow → s.sync[s.cfg.syncStages - 1]? = some l →
    (s.cfg.deadlineUs < s.elapsed + 1 → exec .bitWaitLow s = .next { s with
      elapsed := s.cfg.deadlineUs + 1, state := .timeout, result := 2#2, done := true, failState := 6#4 })
    ∧ (s.elapsed + 1 ≤ s.cfg.deadlineUs ∧ l = false → exec .bitWaitLow s = .next { s with elapsed := s.elapsed + 1 })
    ∧ (s.elapsed + 1 ≤ s.cfg.deadlineUs ∧ l = true → exec .bitWaitLow s = .next { s with
      elapsed := s.elapsed + 1, pulseCnt := 1, state := .bitMeasureHigh })

/-- BIT_MEASURE_HIGH (R263): past the deadline Timeout; before it a high sample is counted or passes the cap, and a low sample
classifies the bit (R261), stores it (R290) and goes on to the next bit or, after bit 39, to the checksum. -/
def Obligations.BitMeasureHighTick : Prop :=
  decode (.fsm 7#4) = .bitMeasureHigh
  ∧ ∀ (s : State) (l : Bool), s.state = .bitMeasureHigh → s.sync[s.cfg.syncStages - 1]? = some l →
    (s.cfg.deadlineUs < s.elapsed + 1 → exec .bitMeasureHigh s = .next { s with
      elapsed := s.cfg.deadlineUs + 1, state := .timeout, result := 2#2, done := true, failState := 7#4 })
    ∧ (s.elapsed + 1 ≤ s.cfg.deadlineUs →
      (l = true ∧ s.pulseCnt + 1 ≤ s.cfg.pulseCap → exec .bitMeasureHigh s = .next { s with
        elapsed := s.elapsed + 1, pulseCnt := s.pulseCnt + 1 })
      ∧ (l = true ∧ s.cfg.pulseCap < s.pulseCnt + 1 → exec .bitMeasureHigh s = .next { s with
        elapsed := s.elapsed + 1, state := .timeout, result := 2#2, done := true, failState := 7#4 })
      ∧ (l = false → exec .bitMeasureHigh s = .next { s with
        elapsed := s.elapsed + 1, bitIdx := s.bitIdx + 1,
        buf := assemble s.buf s.bitIdx (decide (s.cfg.bitThreshold < s.pulseCnt)),
        state := if s.bitIdx = 39 then .checksumCheck else .bitWaitLow }))

/-- `Assemble(i, b)` (R290): bit `7 - i mod 8` of byte `i / 8` is set if `b` is, and every other bit of the buffer is kept. -/
def Obligations.AssembleSetsOneBit : Prop :=
  ∀ (f : Frame) (i : Nat) (b : Bool), i < 40 → ∀ pos < 8,
    (assemble f i b).b0.getLsbD pos = (f.b0.getLsbD pos || (b && decide (i / 8 = 0 ∧ pos = 7 - i % 8)))
    ∧ (assemble f i b).b1.getLsbD pos = (f.b1.getLsbD pos || (b && decide (i / 8 = 1 ∧ pos = 7 - i % 8)))
    ∧ (assemble f i b).b2.getLsbD pos = (f.b2.getLsbD pos || (b && decide (i / 8 = 2 ∧ pos = 7 - i % 8)))
    ∧ (assemble f i b).b3.getLsbD pos = (f.b3.getLsbD pos || (b && decide (i / 8 = 3 ∧ pos = 7 - i % 8)))
    ∧ (assemble f i b).b4.getLsbD pos = (f.b4.getLsbD pos || (b && decide (i / 8 = 4 ∧ pos = 7 - i % 8)))

/-- CHECKSUM_CHECK (R310, R312, R353): past the deadline Timeout; before it a right sum copies the buffer to the outputs and
succeeds, and a wrong one is a ChecksumError and shows nothing. -/
def Obligations.ChecksumCheckTick : Prop :=
  decode (.fsm 8#4) = .checksumCheck
  ∧ ∀ s : State, s.state = .checksumCheck →
    (s.cfg.deadlineUs < s.elapsed + 1 → exec .checksumCheck s = .next { s with
      elapsed := s.cfg.deadlineUs + 1, state := .timeout, result := 2#2, done := true, failState := 8#4 })
    ∧ (s.elapsed + 1 ≤ s.cfg.deadlineUs →
      (s.buf.b4.toNat = (s.buf.b0.toNat + s.buf.b1.toNat + s.buf.b2.toNat + s.buf.b3.toNat) % 256 →
        exec .checksumCheck s = .next { s with
          elapsed := s.elapsed + 1, state := .success, out := s.buf, result := 1#2, done := true, failState := 0#4 })
      ∧ (s.buf.b4.toNat ≠ (s.buf.b0.toNat + s.buf.b1.toNat + s.buf.b2.toNat + s.buf.b3.toNat) % 256 →
        exec .checksumCheck s = .next { s with
          elapsed := s.elapsed + 1, state := .chkerr, result := 3#2, done := true, failState := 8#4 }))

/-! ### Whole-machine rules -/

/-- The start pulse cannot meet the deadline (R205): a tick in it is at most at `DEADLINE_US`, raises nothing, and is the same
for either sample.
The invariant rules out the states no run from reset reaches. -/
def Obligations.DeadlineIsOutOfReachInTheStartPulse : Prop :=
  ∀ s : State, StateInv s → s.state = .startLow ∨ s.state = .startHigh →
    ∃ t, exec (decode (.fsm s.state.code)) s = .next t ∧ (∀ l : Bool, tickStep s l = t)
      ∧ t.elapsed = s.elapsed + 1 ∧ t.elapsed ≤ s.cfg.deadlineUs
      ∧ (t.state = .startLow ∨ t.state = .startHigh ∨ t.state = .awaitReleaseHigh) ∧ t.done = s.done

/-- No host transaction changes what a running exchange samples or does: the next state is that of a cycle without one, but
for IE and `bus_rdata` (R403, R400). -/
def Obligations.HostCannotDisturbARunningExchange : Prop :=
  ∀ (s t u : State) (w : TxnWord), StateInv s → busy s = true → exec (decode (.bus w)) s = .next t → exec .nop s = .next u →
    t = { u with ie := t.ie, rdata := t.rdata }

/-- A terminal state is left only by an accepted START or a reset (R358, R316): until then the outcome and the outputs stay. -/
def Obligations.OnlyStartLeavesATerminalState : Prop :=
  ∀ s t : State, s.state = .success ∨ s.state = .timeout ∨ s.state = .chkerr → s.rstIn.head? ≠ some false →
    step s = .next t →
    (t.state = s.state ∧ t.result = s.result ∧ t.failState = s.failState ∧ t.bitIdx = s.bitIdx ∧ t.out = s.out
      ∧ t.buf = s.buf ∧ t.elapsed = s.elapsed ∧ t.lineOe = s.lineOe)
    ∨ ∃ w rest, s.hostIn = .txn w :: rest ∧ w.getLsbD 40 = true ∧ (w.extractLsb' 34 6) = 0#6 ∧ w.getLsbD 0 = true
      ∧ t.state = .startLow ∧ t.result = 0#2 ∧ t.done = false ∧ t.failState = 0#4

/-- The FSM state register changes only at a tick, by an accepted START, or by reset (R40). -/
def Obligations.StateRegisterChangesOnlyByTickStartOrReset : Prop :=
  ∀ s t : State, step s = .next t → t.state ≠ s.state →
    s.presc + 1 = s.cfg.clkPerTick ∨ (busy s = false ∧ ∃ lane wdata, fetch s = .wrCtrlStart lane wdata)
    ∨ s.rstIn.head? = some false

/-- The outputs are written only on entry to SUCCESS, from the buffer, and cleared only by an accepted START or reset
(R56, R324). -/
def Obligations.OutputsComeOnlyFromAGoodFrame : Prop :=
  ∀ s t : State, step s = .next t → t.out ≠ s.out →
    (t.out = ⟨0#8, 0#8, 0#8, 0#8, 0#8⟩ ∧ (t.state = .startLow ∨ t.state = .idle))
    ∨ (s.state = .checksumCheck ∧ t.state = .success ∧ t.out = s.buf
      ∧ s.buf.b4.toNat = (s.buf.b0.toNat + s.buf.b1.toNat + s.buf.b2.toNat + s.buf.b3.toNat) % 256)

/-- `irq` (R360, R361): it is DONE and IE; it rises with the entry to a terminal state if IE = 1, and follows every write of IE;
it falls with the write that clears DONE, and with an accepted START. -/
def Obligations.InterruptFollowsDoneAndEnable : Prop :=
  ∀ (s t : State), exec .nop s = .next t →
    irq s = (s.done && s.ie)
    ∧ (busy s = true ∧ busy t = false ∧ s.ie = true → irq t = true)
    ∧ (∀ lane wdata, ∃ u, exec (.wrCtrlNostart lane wdata) s = .next u ∧ irq u = (t.done && wdata.getLsbD 1))
    ∧ (∀ lane wdata, wdata.getLsbD 3 = true → ¬ (busy s = true ∧ busy t = false) →
      ∃ u, exec (.wrStatus lane wdata) s = .next u ∧ irq u = false)
    ∧ (∀ lane wdata, busy s = false → ∃ u, exec (.wrCtrlStart lane wdata) s = .next u ∧ irq u = false)

/-- Every exchange in progress reaches a terminal state, at the latest at tick `DEADLINE_US + 1` of the exchange, whatever the
line and the host do (R359). -/
def Obligations.EveryExchangeEnds : Prop :=
  ∀ s : State, StateInv s → busy s = true → noReset s →
    ∃ k t, k ≤ s.cfg.clkPerTick * (s.cfg.deadlineUs + 1 - s.elapsed) ∧ Sys2Proof.core.run k s = .next t
      ∧ (t.state = .success ∨ t.state = .timeout ∨ t.state = .chkerr) ∧ t.done = true
      ∧ t.elapsed ≤ s.cfg.deadlineUs + 1

/-- The line sample is late by the synchroniser (R402): a level of `line_i` is the sample `SYNC_STAGES` cycles later. -/
def Obligations.LineSampleIsLateByTheSynchroniser : Prop :=
  ∀ (s : State) (l : Bool) (rest : List Bool), StateInv s → noReset s → s.lineIn = l :: rest →
    ∃ t, Sys2Proof.core.run s.cfg.syncStages s = .next t ∧ t.sync[s.cfg.syncStages - 1]? = some l

/-- The counters stay within the widths of R12: with the defaults 19, 15, 8 and 6 bits. -/
def Obligations.CountersFitTheirWidths : Prop :=
  (∀ s : State, StateInv s → s.elapsed < 2 ^ elapsedWidth s.cfg ∧ s.phaseCnt < 2 ^ phaseWidth s.cfg
    ∧ s.pulseCnt < 2 ^ pulseWidth s.cfg ∧ s.bitIdx < 2 ^ bitIdxWidth ∧ s.presc < 2 ^ prescWidth s.cfg)
  ∧ elapsedWidth Config.default = 19 ∧ phaseWidth Config.default = 15 ∧ pulseWidth Config.default = 8 ∧ bitIdxWidth = 6

/-! ### The exchange over ticks -/

/-- The start pulse on the line (R206, R203, R204): from an accepted START the line is driven low for exactly `START_LOW_US`
ticks, then high for exactly `START_HIGH_US`, then released, whatever is sampled. -/
def Obligations.StartPulseOnTheLine : Prop :=
  ∀ (s : State) (samples : List Bool), configLegal s.cfg = true → s.state = .startLow → s.phaseCnt = 0 → s.elapsed = 0 →
    s.lineOe = true → s.lineO = false →
    (samples.length < s.cfg.startLowUs → runTicks samples s = { s with
      elapsed := samples.length, phaseCnt := samples.length })
    ∧ (s.cfg.startLowUs ≤ samples.length → samples.length < s.cfg.startLowUs + s.cfg.startHighUs →
      runTicks samples s = { s with
        elapsed := samples.length, phaseCnt := samples.length - s.cfg.startLowUs, state := .startHigh, lineO := true })
    ∧ (samples.length = s.cfg.startLowUs + s.cfg.startHighUs → runTicks samples s = { s with
        elapsed := samples.length, phaseCnt := 0, state := .awaitReleaseHigh, lineO := true, lineOe := false })

/-- One data bit with a high pulse of `h` samples (R264): up to the cap it is classified by its width and stored; beyond the
cap the exchange times out at high sample `PULSE_CAP + 1`, whatever follows. -/
def Obligations.HighPulseIsMeasured : Prop :=
  ∀ (s : State) (h : Nat), s.state = .bitWaitLow → 1 ≤ h →
    (h ≤ s.cfg.pulseCap → s.elapsed + h + 1 ≤ s.cfg.deadlineUs →
      runTicks (List.replicate h true ++ [false]) s = { s with
        elapsed := s.elapsed + h + 1, pulseCnt := h, bitIdx := s.bitIdx + 1,
        buf := assemble s.buf s.bitIdx (decide (s.cfg.bitThreshold < h)),
        state := if s.bitIdx = 39 then .checksumCheck else .bitWaitLow })
    ∧ (s.cfg.pulseCap < h → 1 ≤ s.cfg.pulseCap → s.elapsed + s.cfg.pulseCap + 1 ≤ s.cfg.deadlineUs →
      ∀ rest, runTicks (List.replicate h true ++ rest) s = { s with
        elapsed := s.elapsed + s.cfg.pulseCap + 1, pulseCnt := s.cfg.pulseCap, state := .timeout, result := 2#2,
        done := true, failState := 7#4 })

/-- The 40 bits of an exchange fill the buffer MSB first (R292, R119): as one number it is the bits read in order. -/
def Obligations.BitsArePackedMsbFirst : Prop :=
  ∀ bits : List Bool, bits.length = 40 →
    ((bits.zipIdx.foldl (fun f b => assemble f b.2 b.1) Frame.zero).number = msbFirst bits)

/-- A frame sent as 40 pulses of any legal widths is received (R118, R119, R261, R313): the buffer is the bits that the widths
classify as; with a right checksum they are the outputs of SUCCESS, otherwise CHKERR shows nothing new. -/
def Obligations.FrameOnTheLineIsReceived : Prop :=
  ∀ (s : State) (pulses : List Pulse) (last : Bool), s.state = .bitWaitLow → s.bitIdx = 0 → s.buf = Frame.zero →
    pulses.length = 40 → (∀ p ∈ pulses, 1 ≤ p.high ∧ p.high ≤ s.cfg.pulseCap) →
    s.elapsed + (pulses.flatMap Pulse.samples).length + 1 ≤ s.cfg.deadlineUs →
    ∃ f t, runTicks (pulses.flatMap Pulse.samples ++ [last]) s = t
      ∧ f.number = msbFirst (pulses.map fun p => decide (s.cfg.bitThreshold < p.high))
      ∧ t.buf = f ∧ t.bitIdx = 40 ∧ t.done = true
      ∧ (f.b4.toNat = (f.b0.toNat + f.b1.toNat + f.b2.toNat + f.b3.toNat) % 256 →
        t.state = .success ∧ t.result = 1#2 ∧ t.failState = 0#4 ∧ t.out = f)
      ∧ (f.b4.toNat ≠ (f.b0.toNat + f.b1.toNat + f.b2.toNat + f.b3.toNat) % 256 →
        t.state = .chkerr ∧ t.result = 3#2 ∧ t.failState = 8#4 ∧ t.out = s.out)

/-! ### The host's side of the registers -/

/-- The humidity as f32 (R325): 0 for 0, and for any other tenths `x` the binary32 `m * 2^(e - 150)`, with `m` of 24 bits,
that is nearest to `x / 10`; the temperature has the magnitude's value with the frame's sign flag as its sign bit. -/
def Obligations.TenthsAsNearestBinary32 : Prop :=
  ∀ f : Frame, ∃ x, x = 256 * f.b0.toNat + f.b1.toNat
    ∧ (x = 0 → humidityF32 f = 0#32)
    ∧ (x ≠ 0 → ∃ e m, humidityF32 f = BitVec.ofNat 32 (e * 2 ^ 23 + (m - 2 ^ 23)) ∧ 1 ≤ e ∧ e ≤ 254
      ∧ 2 ^ 23 ≤ m ∧ m < 2 ^ 24
      ∧ 2 * (10 * m * 2 ^ e) ≤ 2 * (x * 2 ^ 150) + 10 * 2 ^ e ∧ 2 * (x * 2 ^ 150) ≤ 2 * (10 * m * 2 ^ e) + 10 * 2 ^ e)
    ∧ (temperatureF32 f).getLsbD 31 = f.b2.getLsbD 7
    ∧ ∀ g : Frame, g.b0 = f.b2 &&& 0x7F#8 → g.b1 = f.b3 →
      (temperatureF32 f).extractLsb' 0 31 = (humidityF32 g).extractLsb' 0 31

/-- A host address reaches a register exactly in the block's 256 bytes, and then the register of the word it lies in
(R82, R83): `ADDR[1:0]` changes neither a read nor a write. -/
def Obligations.HostAddressesReachTheirRegister : Prop :=
  (∀ (c : Config) (a : Nat), (∃ r, regOffset c a = some r) ↔ c.dhtdecBase ≤ a ∧ a < c.dhtdecBase + 256)
  ∧ (∀ (c : Config) (a : Nat) (r : BusAddr), regOffset c a = some r → r.toNat = a - c.dhtdecBase)
  ∧ ∀ (s s1 : State) (a b : BusAddr) (v : RegWord), a.toNat / 4 = b.toNat / 4 →
    regRead s a = regRead s b ∧ writeEffect s s1 a v = writeEffect s s1 b v
end

