-- ==== Sys2Proof/Laws/Decode.lean ====
section
/-! SUPPORT. The fields of an encoded word, and the state codes read back. -/

namespace Sys2Proof

/-- Where each bit of a transaction word comes from (R110). -/
theorem txnWord_getLsbD (w : Bool) (slot : BitVec 6) (lane : BitVec 2) (d : RegWord) (i : Nat) :
    (txnWord w slot lane d).getLsbD i =
      if i < 32 then d.getLsbD i
      else if i < 34 then lane.getLsbD (i - 32)
      else if i < 40 then slot.getLsbD (i - 34)
      else (decide (i = 40) && w) := by
  show (BitVec.ofBool w ++ slot ++ lane ++ d : BitVec (1 + 6 + 2 + 32)).getLsbD i = _
  rw [BitVec.getLsbD_append, BitVec.getLsbD_append, BitVec.getLsbD_append, BitVec.getLsbD_ofBool]
  by_cases a : i < 32
  · simp [a]
  · by_cases b : i < 34
    · simp [a, b, show i - 32 < 2 by omega]
    · by_cases c : i < 40
      · simp [a, b, c, show ¬ i - 32 < 2 by omega, show i - 32 - 2 = i - 34 by omega, show i - 34 < 6 by omega]
      · simp [a, b, c, show ¬ i - 32 < 2 by omega, show i - 32 - 2 = i - 34 by omega, show ¬ i - 34 < 6 by omega,
          show i - 34 - 6 = 0 ↔ i = 40 by omega]

theorem txnWrite_txnWord (w : Bool) (slot : BitVec 6) (lane : BitVec 2) (d : RegWord) :
    txnWrite (txnWord w slot lane d) = w := by
  rw [txnWrite, txnWord_getLsbD]; simp

theorem txnData_txnWord (w : Bool) (slot : BitVec 6) (lane : BitVec 2) (d : RegWord) :
    txnData (txnWord w slot lane d) = d := by
  apply BitVec.eq_of_getLsbD_eq
  intro i hi
  rw [txnData, BitVec.getLsbD_extractLsb', txnWord_getLsbD, Nat.zero_add, if_pos hi]
  simp only [hi, decide_true, Bool.true_and]

theorem addrSlot_txnWord (w : Bool) (slot : BitVec 6) (lane : BitVec 2) (d : RegWord) :
    addrSlot (txnAddr (txnWord w slot lane d)) = slot := by
  apply BitVec.eq_of_getLsbD_eq
  intro i hi
  rw [addrSlot, txnAddr, BitVec.getLsbD_extractLsb', BitVec.getLsbD_extractLsb', txnWord_getLsbD,
    if_neg (by omega), if_neg (by omega), if_pos (by omega), show 32 + (2 + i) - 34 = i by omega]
  simp only [hi, decide_true, Bool.true_and, show 2 + i < 8 by omega]

theorem addrLane_txnWord (w : Bool) (slot : BitVec 6) (lane : BitVec 2) (d : RegWord) :
    addrLane (txnAddr (txnWord w slot lane d)) = lane := by
  apply BitVec.eq_of_getLsbD_eq
  intro i hi
  rw [addrLane, txnAddr, BitVec.getLsbD_extractLsb', BitVec.getLsbD_extractLsb', txnWord_getLsbD,
    if_neg (by omega), if_pos (by omega), show 32 + (0 + i) - 32 = i by omega]
  simp only [hi, decide_true, Bool.true_and, show 0 + i < 8 by omega]

/-- Decoding a word written field by field. -/
theorem decodeBus_txnWord (w : Bool) (slot : BitVec 6) (lane : BitVec 2) (d : RegWord) :
    decodeBus (txnWord w slot lane d) = if w then decodeWrite slot lane d else decodeRead slot lane d := by
  simp only [decodeBus, txnWrite_txnWord, addrSlot_txnWord, addrLane_txnWord, txnData_txnWord]

/-- Every word is its fields. -/
theorem txnWord_fields (t : TxnWord) :
    txnWord (txnWrite t) (addrSlot (txnAddr t)) (addrLane (txnAddr t)) (txnData t) = t := by
  apply BitVec.eq_of_getLsbD_eq
  intro i hi
  rw [txnWord_getLsbD]
  simp only [txnWrite, addrSlot, addrLane, txnAddr, txnData, BitVec.getLsbD_extractLsb']
  by_cases a : i < 32
  · simp only [a, if_true, Nat.zero_add, decide_true, Bool.true_and]
  · by_cases b : i < 34
    · simp only [a, b, if_true, if_false, show i - 32 < 2 by omega, show 0 + (i - 32) < 8 by omega,
        show 32 + (0 + (i - 32)) = i by omega, decide_true, Bool.true_and]
    · by_cases c : i < 40
      · simp only [a, b, c, if_true, if_false, show i - 34 < 6 by omega, show 2 + (i - 34) < 8 by omega,
          show 32 + (2 + (i - 34)) = i by omega, decide_true, Bool.true_and]
      · obtain rfl : i = 40 := by omega
        simp only [a, b, c, if_false, decide_true, Bool.true_and]

/-- Masking a word masks its fields. -/
theorem txnWord_and (w w' : Bool) (slot slot' : BitVec 6) (lane lane' : BitVec 2) (d d' : RegWord) :
    txnWord w slot lane d &&& txnWord w' slot' lane' d' =
      txnWord (w && w') (slot &&& slot') (lane &&& lane') (d &&& d') := by
  apply BitVec.eq_of_getLsbD_eq
  intro i _
  rw [BitVec.getLsbD_and]
  simp only [txnWord_getLsbD, BitVec.getLsbD_and]
  split <;> (try split) <;> (try split) <;> first | rfl | (cases decide (i = 40) <;> simp)

/-- The mask of a row that fixes `W` and `ADDR[7:2]`. -/
theorem and_registerMask (w : Bool) (slot : BitVec 6) (lane : BitVec 2) (d : RegWord) :
    (txnWord w slot lane d).toNat &&& 0x1FC00000000 = (txnWord w slot 0#2 0#32).toNat := by
  have h := txnWord_and w true slot (BitVec.allOnes 6) lane 0#2 d 0#32
  rw [BitVec.and_allOnes, Bool.and_true, BitVec.and_zero, BitVec.and_zero] at h
  rw [← h, BitVec.toNat_and]; rfl

/-- The mask of a row that fixes `W`, `ADDR[7:2]` and `WDATA[0]`. -/
theorem and_controlMask (w : Bool) (slot : BitVec 6) (lane : BitVec 2) (d : RegWord) :
    (txnWord w slot lane d).toNat &&& 0x1FC00000001 = (txnWord w slot 0#2 (d &&& 1#32)).toNat := by
  have h := txnWord_and w true slot (BitVec.allOnes 6) lane 0#2 d 1#32
  rw [BitVec.and_allOnes, Bool.and_true, BitVec.and_zero] at h
  rw [← h, BitVec.toNat_and]; rfl

/-- The mask of a row that fixes `W` alone. -/
theorem and_writeMask (w : Bool) (slot : BitVec 6) (lane : BitVec 2) (d : RegWord) :
    (txnWord w slot lane d).toNat &&& 0x10000000000 = (txnWord w 0#6 0#2 0#32).toNat := by
  have h := txnWord_and w true slot 0#6 lane 0#2 d 0#32
  rw [BitVec.and_zero, Bool.and_true, BitVec.and_zero, BitVec.and_zero] at h
  rw [← h, BitVec.toNat_and]; rfl

/-- `WDATA` masked to its bit 0. -/
theorem and_one_of_bit (d : RegWord) : d &&& 1#32 = if d.getLsbD 0 then 1#32 else 0#32 := by
  apply BitVec.eq_of_getLsbD_eq
  intro i _
  rw [BitVec.getLsbD_and]
  by_cases h : i = 0
  · subst h; cases d.getLsbD 0 <;> rfl
  · have : (1#32).getLsbD i = false := by simp [BitVec.getLsbD_one, h]
    rw [this, Bool.and_false]; split <;> simp [this]

theorem code_stateOfCode (c : StateCode) : (stateOfCode c).code = c := by
  revert c; decide

theorem stateOfCode_code (s : FsmState) : stateOfCode s.code = s := by
  cases s with
  | rsvd low => revert low; decide
  | _ => rfl

/-- The row of a state, decoded from its code. -/
theorem decodeFsm_code (s : FsmState) : decodeFsm s.code = instrOfState s := by
  rw [decodeFsm, stateOfCode_code]

end Sys2Proof
end

