-- ==== Sys2Proof/Laws/State.lean ====
section
/-! SUPPORT. One lemma per field of State per named update: what the update writes there, or that it keeps it. -/

namespace Sys2Proof.Machine

/-! ### raiseFailure -/

@[simp] theorem raiseFailure_cfg (q : FsmState) (r : BitVec 2) (c : FsmState) (s : State) : (raiseFailure q r c s).cfg = s.cfg := rfl
@[simp] theorem raiseFailure_state (q : FsmState) (r : BitVec 2) (c : FsmState) (s : State) : (raiseFailure q r c s).state = q := rfl
@[simp] theorem raiseFailure_lineOe (q : FsmState) (r : BitVec 2) (c : FsmState) (s : State) : (raiseFailure q r c s).lineOe = s.lineOe := rfl
@[simp] theorem raiseFailure_lineO (q : FsmState) (r : BitVec 2) (c : FsmState) (s : State) : (raiseFailure q r c s).lineO = s.lineO := rfl
@[simp] theorem raiseFailure_elapsed (q : FsmState) (r : BitVec 2) (c : FsmState) (s : State) : (raiseFailure q r c s).elapsed = s.elapsed := rfl
@[simp] theorem raiseFailure_phaseCnt (q : FsmState) (r : BitVec 2) (c : FsmState) (s : State) : (raiseFailure q r c s).phaseCnt = s.phaseCnt := rfl
@[simp] theorem raiseFailure_pulseCnt (q : FsmState) (r : BitVec 2) (c : FsmState) (s : State) : (raiseFailure q r c s).pulseCnt = s.pulseCnt := rfl
@[simp] theorem raiseFailure_bitIdx (q : FsmState) (r : BitVec 2) (c : FsmState) (s : State) : (raiseFailure q r c s).bitIdx = s.bitIdx := rfl
@[simp] theorem raiseFailure_buf (q : FsmState) (r : BitVec 2) (c : FsmState) (s : State) : (raiseFailure q r c s).buf = s.buf := rfl
@[simp] theorem raiseFailure_presc (q : FsmState) (r : BitVec 2) (c : FsmState) (s : State) : (raiseFailure q r c s).presc = s.presc := rfl
@[simp] theorem raiseFailure_sync (q : FsmState) (r : BitVec 2) (c : FsmState) (s : State) : (raiseFailure q r c s).sync = s.sync := rfl
@[simp] theorem raiseFailure_ie (q : FsmState) (r : BitVec 2) (c : FsmState) (s : State) : (raiseFailure q r c s).ie = s.ie := rfl
@[simp] theorem raiseFailure_result (q : FsmState) (r : BitVec 2) (c : FsmState) (s : State) : (raiseFailure q r c s).result = r := rfl
@[simp] theorem raiseFailure_done (q : FsmState) (r : BitVec 2) (c : FsmState) (s : State) : (raiseFailure q r c s).done = true := rfl
@[simp] theorem raiseFailure_failState (q : FsmState) (r : BitVec 2) (c : FsmState) (s : State) : (raiseFailure q r c s).failState = c.code := rfl
@[simp] theorem raiseFailure_out (q : FsmState) (r : BitVec 2) (c : FsmState) (s : State) : (raiseFailure q r c s).out = s.out := rfl
@[simp] theorem raiseFailure_rdata (q : FsmState) (r : BitVec 2) (c : FsmState) (s : State) : (raiseFailure q r c s).rdata = s.rdata := rfl
@[simp] theorem raiseFailure_rstIn (q : FsmState) (r : BitVec 2) (c : FsmState) (s : State) : (raiseFailure q r c s).rstIn = s.rstIn := rfl
@[simp] theorem raiseFailure_hostIn (q : FsmState) (r : BitVec 2) (c : FsmState) (s : State) : (raiseFailure q r c s).hostIn = s.hostIn := rfl
@[simp] theorem raiseFailure_lineIn (q : FsmState) (r : BitVec 2) (c : FsmState) (s : State) : (raiseFailure q r c s).lineIn = s.lineIn := rfl
@[simp] theorem raiseFailure_cycleNo (q : FsmState) (r : BitVec 2) (c : FsmState) (s : State) : (raiseFailure q r c s).cycleNo = s.cycleNo := rfl

/-! ### raiseTimeout -/

@[simp] theorem raiseTimeout_cfg (c : FsmState) (s : State) : (raiseTimeout c s).cfg = s.cfg := rfl
@[simp] theorem raiseTimeout_state (c : FsmState) (s : State) : (raiseTimeout c s).state = .timeout := rfl
@[simp] theorem raiseTimeout_lineOe (c : FsmState) (s : State) : (raiseTimeout c s).lineOe = s.lineOe := rfl
@[simp] theorem raiseTimeout_lineO (c : FsmState) (s : State) : (raiseTimeout c s).lineO = s.lineO := rfl
@[simp] theorem raiseTimeout_elapsed (c : FsmState) (s : State) : (raiseTimeout c s).elapsed = s.elapsed := rfl
@[simp] theorem raiseTimeout_phaseCnt (c : FsmState) (s : State) : (raiseTimeout c s).phaseCnt = s.phaseCnt := rfl
@[simp] theorem raiseTimeout_pulseCnt (c : FsmState) (s : State) : (raiseTimeout c s).pulseCnt = s.pulseCnt := rfl
@[simp] theorem raiseTimeout_bitIdx (c : FsmState) (s : State) : (raiseTimeout c s).bitIdx = s.bitIdx := rfl
@[simp] theorem raiseTimeout_buf (c : FsmState) (s : State) : (raiseTimeout c s).buf = s.buf := rfl
@[simp] theorem raiseTimeout_presc (c : FsmState) (s : State) : (raiseTimeout c s).presc = s.presc := rfl
@[simp] theorem raiseTimeout_sync (c : FsmState) (s : State) : (raiseTimeout c s).sync = s.sync := rfl
@[simp] theorem raiseTimeout_ie (c : FsmState) (s : State) : (raiseTimeout c s).ie = s.ie := rfl
@[simp] theorem raiseTimeout_result (c : FsmState) (s : State) : (raiseTimeout c s).result = resultTimeout := rfl
@[simp] theorem raiseTimeout_done (c : FsmState) (s : State) : (raiseTimeout c s).done = true := rfl
@[simp] theorem raiseTimeout_failState (c : FsmState) (s : State) : (raiseTimeout c s).failState = c.code := rfl
@[simp] theorem raiseTimeout_out (c : FsmState) (s : State) : (raiseTimeout c s).out = s.out := rfl
@[simp] theorem raiseTimeout_rdata (c : FsmState) (s : State) : (raiseTimeout c s).rdata = s.rdata := rfl
@[simp] theorem raiseTimeout_rstIn (c : FsmState) (s : State) : (raiseTimeout c s).rstIn = s.rstIn := rfl
@[simp] theorem raiseTimeout_hostIn (c : FsmState) (s : State) : (raiseTimeout c s).hostIn = s.hostIn := rfl
@[simp] theorem raiseTimeout_lineIn (c : FsmState) (s : State) : (raiseTimeout c s).lineIn = s.lineIn := rfl
@[simp] theorem raiseTimeout_cycleNo (c : FsmState) (s : State) : (raiseTimeout c s).cycleNo = s.cycleNo := rfl

/-! ### raiseChecksumError -/

@[simp] theorem raiseChecksumError_cfg (s : State) : (raiseChecksumError s).cfg = s.cfg := rfl
@[simp] theorem raiseChecksumError_state (s : State) : (raiseChecksumError s).state = .chkerr := rfl
@[simp] theorem raiseChecksumError_lineOe (s : State) : (raiseChecksumError s).lineOe = s.lineOe := rfl
@[simp] theorem raiseChecksumError_lineO (s : State) : (raiseChecksumError s).lineO = s.lineO := rfl
@[simp] theorem raiseChecksumError_elapsed (s : State) : (raiseChecksumError s).elapsed = s.elapsed := rfl
@[simp] theorem raiseChecksumError_phaseCnt (s : State) : (raiseChecksumError s).phaseCnt = s.phaseCnt := rfl
@[simp] theorem raiseChecksumError_pulseCnt (s : State) : (raiseChecksumError s).pulseCnt = s.pulseCnt := rfl
@[simp] theorem raiseChecksumError_bitIdx (s : State) : (raiseChecksumError s).bitIdx = s.bitIdx := rfl
@[simp] theorem raiseChecksumError_buf (s : State) : (raiseChecksumError s).buf = s.buf := rfl
@[simp] theorem raiseChecksumError_presc (s : State) : (raiseChecksumError s).presc = s.presc := rfl
@[simp] theorem raiseChecksumError_sync (s : State) : (raiseChecksumError s).sync = s.sync := rfl
@[simp] theorem raiseChecksumError_ie (s : State) : (raiseChecksumError s).ie = s.ie := rfl
@[simp] theorem raiseChecksumError_result (s : State) : (raiseChecksumError s).result = resultChkerr := rfl
@[simp] theorem raiseChecksumError_done (s : State) : (raiseChecksumError s).done = true := rfl
@[simp] theorem raiseChecksumError_failState (s : State) : (raiseChecksumError s).failState = 8#4 := rfl
@[simp] theorem raiseChecksumError_out (s : State) : (raiseChecksumError s).out = s.out := rfl
@[simp] theorem raiseChecksumError_rdata (s : State) : (raiseChecksumError s).rdata = s.rdata := rfl
@[simp] theorem raiseChecksumError_rstIn (s : State) : (raiseChecksumError s).rstIn = s.rstIn := rfl
@[simp] theorem raiseChecksumError_hostIn (s : State) : (raiseChecksumError s).hostIn = s.hostIn := rfl
@[simp] theorem raiseChecksumError_lineIn (s : State) : (raiseChecksumError s).lineIn = s.lineIn := rfl
@[simp] theorem raiseChecksumError_cycleNo (s : State) : (raiseChecksumError s).cycleNo = s.cycleNo := rfl

/-! ### enterSuccess -/

@[simp] theorem enterSuccess_cfg (s : State) : (enterSuccess s).cfg = s.cfg := rfl
@[simp] theorem enterSuccess_state (s : State) : (enterSuccess s).state = .success := rfl
@[simp] theorem enterSuccess_lineOe (s : State) : (enterSuccess s).lineOe = s.lineOe := rfl
@[simp] theorem enterSuccess_lineO (s : State) : (enterSuccess s).lineO = s.lineO := rfl
@[simp] theorem enterSuccess_elapsed (s : State) : (enterSuccess s).elapsed = s.elapsed := rfl
@[simp] theorem enterSuccess_phaseCnt (s : State) : (enterSuccess s).phaseCnt = s.phaseCnt := rfl
@[simp] theorem enterSuccess_pulseCnt (s : State) : (enterSuccess s).pulseCnt = s.pulseCnt := rfl
@[simp] theorem enterSuccess_bitIdx (s : State) : (enterSuccess s).bitIdx = s.bitIdx := rfl
@[simp] theorem enterSuccess_buf (s : State) : (enterSuccess s).buf = s.buf := rfl
@[simp] theorem enterSuccess_presc (s : State) : (enterSuccess s).presc = s.presc := rfl
@[simp] theorem enterSuccess_sync (s : State) : (enterSuccess s).sync = s.sync := rfl
@[simp] theorem enterSuccess_ie (s : State) : (enterSuccess s).ie = s.ie := rfl
@[simp] theorem enterSuccess_result (s : State) : (enterSuccess s).result = resultSuccess := rfl
@[simp] theorem enterSuccess_done (s : State) : (enterSuccess s).done = true := rfl
@[simp] theorem enterSuccess_failState (s : State) : (enterSuccess s).failState = 0#4 := rfl
@[simp] theorem enterSuccess_out (s : State) : (enterSuccess s).out = s.buf := rfl
@[simp] theorem enterSuccess_rdata (s : State) : (enterSuccess s).rdata = s.rdata := rfl
@[simp] theorem enterSuccess_rstIn (s : State) : (enterSuccess s).rstIn = s.rstIn := rfl
@[simp] theorem enterSuccess_hostIn (s : State) : (enterSuccess s).hostIn = s.hostIn := rfl
@[simp] theorem enterSuccess_lineIn (s : State) : (enterSuccess s).lineIn = s.lineIn := rfl
@[simp] theorem enterSuccess_cycleNo (s : State) : (enterSuccess s).cycleNo = s.cycleNo := rfl

/-! ### startAccept -/

@[simp] theorem startAccept_cfg (s : State) : (startAccept s).cfg = s.cfg := rfl
@[simp] theorem startAccept_state (s : State) : (startAccept s).state = .startLow := rfl
@[simp] theorem startAccept_lineOe (s : State) : (startAccept s).lineOe = true := rfl
@[simp] theorem startAccept_lineO (s : State) : (startAccept s).lineO = false := rfl
@[simp] theorem startAccept_elapsed (s : State) : (startAccept s).elapsed = 0 := rfl
@[simp] theorem startAccept_phaseCnt (s : State) : (startAccept s).phaseCnt = 0 := rfl
@[simp] theorem startAccept_pulseCnt (s : State) : (startAccept s).pulseCnt = 0 := rfl
@[simp] theorem startAccept_bitIdx (s : State) : (startAccept s).bitIdx = 0 := rfl
@[simp] theorem startAccept_buf (s : State) : (startAccept s).buf = Frame.zero := rfl
@[simp] theorem startAccept_presc (s : State) : (startAccept s).presc = 0 := rfl
@[simp] theorem startAccept_sync (s : State) : (startAccept s).sync = s.sync := rfl
@[simp] theorem startAccept_ie (s : State) : (startAccept s).ie = s.ie := rfl
@[simp] theorem startAccept_result (s : State) : (startAccept s).result = resultNone := rfl
@[simp] theorem startAccept_done (s : State) : (startAccept s).done = false := rfl
@[simp] theorem startAccept_failState (s : State) : (startAccept s).failState = 0#4 := rfl
@[simp] theorem startAccept_out (s : State) : (startAccept s).out = Frame.zero := rfl
@[simp] theorem startAccept_rdata (s : State) : (startAccept s).rdata = s.rdata := rfl
@[simp] theorem startAccept_rstIn (s : State) : (startAccept s).rstIn = s.rstIn := rfl
@[simp] theorem startAccept_hostIn (s : State) : (startAccept s).hostIn = s.hostIn := rfl
@[simp] theorem startAccept_lineIn (s : State) : (startAccept s).lineIn = s.lineIn := rfl
@[simp] theorem startAccept_cycleNo (s : State) : (startAccept s).cycleNo = s.cycleNo := rfl

/-! ### countTick -/

@[simp] theorem countTick_cfg (s : State) : (countTick s).cfg = s.cfg := rfl
@[simp] theorem countTick_state (s : State) : (countTick s).state = s.state := rfl
@[simp] theorem countTick_lineOe (s : State) : (countTick s).lineOe = s.lineOe := rfl
@[simp] theorem countTick_lineO (s : State) : (countTick s).lineO = s.lineO := rfl
@[simp] theorem countTick_elapsed (s : State) : (countTick s).elapsed = elapsedNext s := rfl
@[simp] theorem countTick_phaseCnt (s : State) : (countTick s).phaseCnt = s.phaseCnt := rfl
@[simp] theorem countTick_pulseCnt (s : State) : (countTick s).pulseCnt = s.pulseCnt := rfl
@[simp] theorem countTick_bitIdx (s : State) : (countTick s).bitIdx = s.bitIdx := rfl
@[simp] theorem countTick_buf (s : State) : (countTick s).buf = s.buf := rfl
@[simp] theorem countTick_presc (s : State) : (countTick s).presc = s.presc := rfl
@[simp] theorem countTick_sync (s : State) : (countTick s).sync = s.sync := rfl
@[simp] theorem countTick_ie (s : State) : (countTick s).ie = s.ie := rfl
@[simp] theorem countTick_result (s : State) : (countTick s).result = s.result := rfl
@[simp] theorem countTick_done (s : State) : (countTick s).done = s.done := rfl
@[simp] theorem countTick_failState (s : State) : (countTick s).failState = s.failState := rfl
@[simp] theorem countTick_out (s : State) : (countTick s).out = s.out := rfl
@[simp] theorem countTick_rdata (s : State) : (countTick s).rdata = s.rdata := rfl
@[simp] theorem countTick_rstIn (s : State) : (countTick s).rstIn = s.rstIn := rfl
@[simp] theorem countTick_hostIn (s : State) : (countTick s).hostIn = s.hostIn := rfl
@[simp] theorem countTick_lineIn (s : State) : (countTick s).lineIn = s.lineIn := rfl
@[simp] theorem countTick_cycleNo (s : State) : (countTick s).cycleNo = s.cycleNo := rfl

/-! ### setIe -/

@[simp] theorem setIe_cfg (b : Bool) (s : State) : (setIe b s).cfg = s.cfg := rfl
@[simp] theorem setIe_state (b : Bool) (s : State) : (setIe b s).state = s.state := rfl
@[simp] theorem setIe_lineOe (b : Bool) (s : State) : (setIe b s).lineOe = s.lineOe := rfl
@[simp] theorem setIe_lineO (b : Bool) (s : State) : (setIe b s).lineO = s.lineO := rfl
@[simp] theorem setIe_elapsed (b : Bool) (s : State) : (setIe b s).elapsed = s.elapsed := rfl
@[simp] theorem setIe_phaseCnt (b : Bool) (s : State) : (setIe b s).phaseCnt = s.phaseCnt := rfl
@[simp] theorem setIe_pulseCnt (b : Bool) (s : State) : (setIe b s).pulseCnt = s.pulseCnt := rfl
@[simp] theorem setIe_bitIdx (b : Bool) (s : State) : (setIe b s).bitIdx = s.bitIdx := rfl
@[simp] theorem setIe_buf (b : Bool) (s : State) : (setIe b s).buf = s.buf := rfl
@[simp] theorem setIe_presc (b : Bool) (s : State) : (setIe b s).presc = s.presc := rfl
@[simp] theorem setIe_sync (b : Bool) (s : State) : (setIe b s).sync = s.sync := rfl
@[simp] theorem setIe_ie (b : Bool) (s : State) : (setIe b s).ie = b := rfl
@[simp] theorem setIe_result (b : Bool) (s : State) : (setIe b s).result = s.result := rfl
@[simp] theorem setIe_done (b : Bool) (s : State) : (setIe b s).done = s.done := rfl
@[simp] theorem setIe_failState (b : Bool) (s : State) : (setIe b s).failState = s.failState := rfl
@[simp] theorem setIe_out (b : Bool) (s : State) : (setIe b s).out = s.out := rfl
@[simp] theorem setIe_rdata (b : Bool) (s : State) : (setIe b s).rdata = s.rdata := rfl
@[simp] theorem setIe_rstIn (b : Bool) (s : State) : (setIe b s).rstIn = s.rstIn := rfl
@[simp] theorem setIe_hostIn (b : Bool) (s : State) : (setIe b s).hostIn = s.hostIn := rfl
@[simp] theorem setIe_lineIn (b : Bool) (s : State) : (setIe b s).lineIn = s.lineIn := rfl
@[simp] theorem setIe_cycleNo (b : Bool) (s : State) : (setIe b s).cycleNo = s.cycleNo := rfl

/-! ### clearDone -/

@[simp] theorem clearDone_cfg (s : State) : (clearDone s).cfg = s.cfg := rfl
@[simp] theorem clearDone_state (s : State) : (clearDone s).state = s.state := rfl
@[simp] theorem clearDone_lineOe (s : State) : (clearDone s).lineOe = s.lineOe := rfl
@[simp] theorem clearDone_lineO (s : State) : (clearDone s).lineO = s.lineO := rfl
@[simp] theorem clearDone_elapsed (s : State) : (clearDone s).elapsed = s.elapsed := rfl
@[simp] theorem clearDone_phaseCnt (s : State) : (clearDone s).phaseCnt = s.phaseCnt := rfl
@[simp] theorem clearDone_pulseCnt (s : State) : (clearDone s).pulseCnt = s.pulseCnt := rfl
@[simp] theorem clearDone_bitIdx (s : State) : (clearDone s).bitIdx = s.bitIdx := rfl
@[simp] theorem clearDone_buf (s : State) : (clearDone s).buf = s.buf := rfl
@[simp] theorem clearDone_presc (s : State) : (clearDone s).presc = s.presc := rfl
@[simp] theorem clearDone_sync (s : State) : (clearDone s).sync = s.sync := rfl
@[simp] theorem clearDone_ie (s : State) : (clearDone s).ie = s.ie := rfl
@[simp] theorem clearDone_result (s : State) : (clearDone s).result = s.result := rfl
@[simp] theorem clearDone_done (s : State) : (clearDone s).done = false := rfl
@[simp] theorem clearDone_failState (s : State) : (clearDone s).failState = s.failState := rfl
@[simp] theorem clearDone_out (s : State) : (clearDone s).out = s.out := rfl
@[simp] theorem clearDone_rdata (s : State) : (clearDone s).rdata = s.rdata := rfl
@[simp] theorem clearDone_rstIn (s : State) : (clearDone s).rstIn = s.rstIn := rfl
@[simp] theorem clearDone_hostIn (s : State) : (clearDone s).hostIn = s.hostIn := rfl
@[simp] theorem clearDone_lineIn (s : State) : (clearDone s).lineIn = s.lineIn := rfl
@[simp] theorem clearDone_cycleNo (s : State) : (clearDone s).cycleNo = s.cycleNo := rfl

/-! ### setRdata -/

@[simp] theorem setRdata_cfg (v : RegWord) (s : State) : (setRdata v s).cfg = s.cfg := rfl
@[simp] theorem setRdata_state (v : RegWord) (s : State) : (setRdata v s).state = s.state := rfl
@[simp] theorem setRdata_lineOe (v : RegWord) (s : State) : (setRdata v s).lineOe = s.lineOe := rfl
@[simp] theorem setRdata_lineO (v : RegWord) (s : State) : (setRdata v s).lineO = s.lineO := rfl
@[simp] theorem setRdata_elapsed (v : RegWord) (s : State) : (setRdata v s).elapsed = s.elapsed := rfl
@[simp] theorem setRdata_phaseCnt (v : RegWord) (s : State) : (setRdata v s).phaseCnt = s.phaseCnt := rfl
@[simp] theorem setRdata_pulseCnt (v : RegWord) (s : State) : (setRdata v s).pulseCnt = s.pulseCnt := rfl
@[simp] theorem setRdata_bitIdx (v : RegWord) (s : State) : (setRdata v s).bitIdx = s.bitIdx := rfl
@[simp] theorem setRdata_buf (v : RegWord) (s : State) : (setRdata v s).buf = s.buf := rfl
@[simp] theorem setRdata_presc (v : RegWord) (s : State) : (setRdata v s).presc = s.presc := rfl
@[simp] theorem setRdata_sync (v : RegWord) (s : State) : (setRdata v s).sync = s.sync := rfl
@[simp] theorem setRdata_ie (v : RegWord) (s : State) : (setRdata v s).ie = s.ie := rfl
@[simp] theorem setRdata_result (v : RegWord) (s : State) : (setRdata v s).result = s.result := rfl
@[simp] theorem setRdata_done (v : RegWord) (s : State) : (setRdata v s).done = s.done := rfl
@[simp] theorem setRdata_failState (v : RegWord) (s : State) : (setRdata v s).failState = s.failState := rfl
@[simp] theorem setRdata_out (v : RegWord) (s : State) : (setRdata v s).out = s.out := rfl
@[simp] theorem setRdata_rdata (v : RegWord) (s : State) : (setRdata v s).rdata = v := rfl
@[simp] theorem setRdata_rstIn (v : RegWord) (s : State) : (setRdata v s).rstIn = s.rstIn := rfl
@[simp] theorem setRdata_hostIn (v : RegWord) (s : State) : (setRdata v s).hostIn = s.hostIn := rfl
@[simp] theorem setRdata_lineIn (v : RegWord) (s : State) : (setRdata v s).lineIn = s.lineIn := rfl
@[simp] theorem setRdata_cycleNo (v : RegWord) (s : State) : (setRdata v s).cycleNo = s.cycleNo := rfl

/-! ### finishEdge -/

@[simp] theorem finishEdge_cfg (s s1 : State) : (finishEdge s s1).cfg = s1.cfg := rfl
@[simp] theorem finishEdge_state (s s1 : State) : (finishEdge s s1).state = s1.state := rfl
@[simp] theorem finishEdge_lineOe (s s1 : State) : (finishEdge s s1).lineOe = s1.lineOe := rfl
@[simp] theorem finishEdge_lineO (s s1 : State) : (finishEdge s s1).lineO = s1.lineO := rfl
@[simp] theorem finishEdge_elapsed (s s1 : State) : (finishEdge s s1).elapsed = s1.elapsed := rfl
@[simp] theorem finishEdge_phaseCnt (s s1 : State) : (finishEdge s s1).phaseCnt = s1.phaseCnt := rfl
@[simp] theorem finishEdge_pulseCnt (s s1 : State) : (finishEdge s s1).pulseCnt = s1.pulseCnt := rfl
@[simp] theorem finishEdge_bitIdx (s s1 : State) : (finishEdge s s1).bitIdx = s1.bitIdx := rfl
@[simp] theorem finishEdge_buf (s s1 : State) : (finishEdge s s1).buf = s1.buf := rfl
@[simp] theorem finishEdge_presc (s s1 : State) : (finishEdge s s1).presc = prescNext s := rfl
@[simp] theorem finishEdge_sync (s s1 : State) : (finishEdge s s1).sync = syncNext s := rfl
@[simp] theorem finishEdge_ie (s s1 : State) : (finishEdge s s1).ie = s1.ie := rfl
@[simp] theorem finishEdge_result (s s1 : State) : (finishEdge s s1).result = s1.result := rfl
@[simp] theorem finishEdge_done (s s1 : State) : (finishEdge s s1).done = s1.done := rfl
@[simp] theorem finishEdge_failState (s s1 : State) : (finishEdge s s1).failState = s1.failState := rfl
@[simp] theorem finishEdge_out (s s1 : State) : (finishEdge s s1).out = s1.out := rfl
@[simp] theorem finishEdge_rdata (s s1 : State) : (finishEdge s s1).rdata = 0#32 := rfl
@[simp] theorem finishEdge_rstIn (s s1 : State) : (finishEdge s s1).rstIn = s1.rstIn := rfl
@[simp] theorem finishEdge_hostIn (s s1 : State) : (finishEdge s s1).hostIn = s1.hostIn := rfl
@[simp] theorem finishEdge_lineIn (s s1 : State) : (finishEdge s s1).lineIn = s.lineIn.tail := rfl
@[simp] theorem finishEdge_cycleNo (s s1 : State) : (finishEdge s s1).cycleNo = s.cycleNo + 1 := rfl

/-! ### takeInputs -/

@[simp] theorem takeInputs_cfg (s : State) : (takeInputs s).cfg = s.cfg := rfl
@[simp] theorem takeInputs_state (s : State) : (takeInputs s).state = s.state := rfl
@[simp] theorem takeInputs_lineOe (s : State) : (takeInputs s).lineOe = s.lineOe := rfl
@[simp] theorem takeInputs_lineO (s : State) : (takeInputs s).lineO = s.lineO := rfl
@[simp] theorem takeInputs_elapsed (s : State) : (takeInputs s).elapsed = s.elapsed := rfl
@[simp] theorem takeInputs_phaseCnt (s : State) : (takeInputs s).phaseCnt = s.phaseCnt := rfl
@[simp] theorem takeInputs_pulseCnt (s : State) : (takeInputs s).pulseCnt = s.pulseCnt := rfl
@[simp] theorem takeInputs_bitIdx (s : State) : (takeInputs s).bitIdx = s.bitIdx := rfl
@[simp] theorem takeInputs_buf (s : State) : (takeInputs s).buf = s.buf := rfl
@[simp] theorem takeInputs_presc (s : State) : (takeInputs s).presc = s.presc := rfl
@[simp] theorem takeInputs_sync (s : State) : (takeInputs s).sync = s.sync := rfl
@[simp] theorem takeInputs_ie (s : State) : (takeInputs s).ie = s.ie := rfl
@[simp] theorem takeInputs_result (s : State) : (takeInputs s).result = s.result := rfl
@[simp] theorem takeInputs_done (s : State) : (takeInputs s).done = s.done := rfl
@[simp] theorem takeInputs_failState (s : State) : (takeInputs s).failState = s.failState := rfl
@[simp] theorem takeInputs_out (s : State) : (takeInputs s).out = s.out := rfl
@[simp] theorem takeInputs_rdata (s : State) : (takeInputs s).rdata = s.rdata := rfl
@[simp] theorem takeInputs_rstIn (s : State) : (takeInputs s).rstIn = s.rstIn.tail := rfl
@[simp] theorem takeInputs_hostIn (s : State) : (takeInputs s).hostIn = if hostNow s = .waitDone then s.hostIn else s.hostIn.tail := rfl
@[simp] theorem takeInputs_lineIn (s : State) : (takeInputs s).lineIn = s.lineIn := rfl
@[simp] theorem takeInputs_cycleNo (s : State) : (takeInputs s).cycleNo = s.cycleNo := rfl

end Sys2Proof.Machine
end

