-- ==== Sys2Proof/Laws/Ops.lean ====
section
/-! SUPPORT. What each shared operation can do, said once: ticks, the clock edge, the synchroniser, and a step. -/

namespace Sys2Proof.Machine

/-! ### Counting a tick -/

theorem deadlinePassed_countTick (s : State) :
    deadlinePassed (countTick s) = decide (s.cfg.deadlineUs ≤ s.elapsed) := by
  simp only [deadlinePassed, exceeded, countTick_cfg, countTick_elapsed, elapsedNext]
  exact decide_eq_decide.mpr (by omega)

theorem elapsedNext_of_lt {s : State} (h : s.elapsed < s.cfg.deadlineUs) : elapsedNext s = s.elapsed + 1 := by
  simp only [elapsedNext]; omega

theorem elapsedNext_of_le {s : State} (h : s.cfg.deadlineUs ≤ s.elapsed) :
    elapsedNext s = s.cfg.deadlineUs + 1 := by
  simp only [elapsedNext]; omega

/-! ### One tick -/

/-- A waiting state times out, goes on waiting, or moves to the next state. -/
theorem waitWhile_cases (c : FsmState) (level : Bool) (n : FsmState) (l : Bool) (s : State) :
    s.cfg.deadlineUs ≤ s.elapsed ∧ waitWhile c level n l s = raiseTimeout c (countTick s)
    ∨ s.elapsed < s.cfg.deadlineUs ∧ l = level ∧ waitWhile c level n l s = countTick s
    ∨ s.elapsed < s.cfg.deadlineUs ∧ l ≠ level ∧ waitWhile c level n l s = { countTick s with state := n } := by
  simp only [waitWhile, deadlinePassed_countTick, decide_eq_true_eq]
  by_cases hd : s.cfg.deadlineUs ≤ s.elapsed
  · exact .inl ⟨hd, if_pos hd⟩
  · by_cases hl : l = level
    · exact .inr (.inl ⟨by omega, hl, by rw [if_neg hd, if_pos hl]⟩)
    · exact .inr (.inr ⟨by omega, hl, by rw [if_neg hd, if_neg hl]⟩)

theorem tickStep_of_not_busy {s : State} (h : busy s = false) (l : Bool) : tickStep s l = s := by
  cases hs : s.state <;> simp_all [busy, busyState, tickStep, tickIdle, tickSuccess, tickTimeout, tickChkerr,
    tickRsvdState]

/-- What every tick leaves alone. -/
structure KeepsOutside (s t : State) : Prop where
  cfg : t.cfg = s.cfg
  presc : t.presc = s.presc
  sync : t.sync = s.sync
  ie : t.ie = s.ie
  rdata : t.rdata = s.rdata
  rstIn : t.rstIn = s.rstIn
  hostIn : t.hostIn = s.hostIn
  lineIn : t.lineIn = s.lineIn
  cycleNo : t.cycleNo = s.cycleNo

theorem waitWhile_keepsOutside (c : FsmState) (level : Bool) (n : FsmState) (l : Bool) (s : State) :
    KeepsOutside s (waitWhile c level n l s) := by
  rcases waitWhile_cases c level n l s with ⟨_, h⟩ | ⟨_, _, h⟩ | ⟨_, _, h⟩ <;> rw [h] <;> constructor <;> rfl

theorem tickStep_keepsOutside (s : State) (l : Bool) : KeepsOutside s (tickStep s l) := by
  unfold tickStep
  split
  case h_2 => unfold tickStartLow; dsimp only; split <;> constructor <;> rfl
  case h_3 => unfold tickStartHigh; dsimp only; split <;> constructor <;> rfl
  case h_4 => exact waitWhile_keepsOutside ..
  case h_5 => exact waitWhile_keepsOutside ..
  case h_6 => exact waitWhile_keepsOutside ..
  case h_7 => unfold tickBitWaitLow; dsimp only; (repeat' split) <;> constructor <;> rfl
  case h_8 => unfold tickBitMeasureHigh; dsimp only; (repeat' split) <;> constructor <;> rfl
  case h_9 => unfold tickChecksumCheck; dsimp only; (repeat' split) <;> constructor <;> rfl
  all_goals constructor <;> rfl

/-! ### The clock edge -/

theorem clockEdge_of_tick {s : State} (h : isTick s = true) :
    clockEdge s = finishEdge s (tickStep s (lin s)) := by
  simp only [clockEdge, h, if_true]

theorem clockEdge_of_no_tick {s : State} (h : isTick s = false) : clockEdge s = finishEdge s s := by
  simp only [clockEdge, h]; rfl

@[simp] theorem clockEdge_cfg (s : State) : (clockEdge s).cfg = s.cfg := by
  simp only [clockEdge, finishEdge_cfg]; split
  · exact (tickStep_keepsOutside s _).cfg
  · rfl

@[simp] theorem clockEdge_ie (s : State) : (clockEdge s).ie = s.ie := by
  simp only [clockEdge, finishEdge_ie]; split
  · exact (tickStep_keepsOutside s _).ie
  · rfl

@[simp] theorem clockEdge_rstIn (s : State) : (clockEdge s).rstIn = s.rstIn := by
  simp only [clockEdge, finishEdge_rstIn]; split
  · exact (tickStep_keepsOutside s _).rstIn
  · rfl

@[simp] theorem clockEdge_hostIn (s : State) : (clockEdge s).hostIn = s.hostIn := by
  simp only [clockEdge, finishEdge_hostIn]; split
  · exact (tickStep_keepsOutside s _).hostIn
  · rfl

@[simp] theorem clockEdge_sync (s : State) : (clockEdge s).sync = syncNext s := rfl
@[simp] theorem clockEdge_presc (s : State) : (clockEdge s).presc = prescNext s := rfl
@[simp] theorem clockEdge_rdata (s : State) : (clockEdge s).rdata = 0#32 := rfl
@[simp] theorem clockEdge_lineIn (s : State) : (clockEdge s).lineIn = s.lineIn.tail := rfl
@[simp] theorem clockEdge_cycleNo (s : State) : (clockEdge s).cycleNo = s.cycleNo + 1 := rfl

/-- The synchroniser keeps its `SYNC_STAGES` flops. -/
theorem syncNext_length {s : State} (h : s.sync.length = s.cfg.syncStages) :
    (syncNext s).length = s.cfg.syncStages := by
  simp only [syncNext, List.length_take, List.length_cons]; omega

theorem freeSyncBits_length (stages n : Nat) : (freeSyncBits stages n).length = stages := by
  simp [freeSyncBits]

/-! ### A step -/

theorem step_of_illegal {s : State} (h : configLegal s.cfg = false) : step s = .refused .illegalConfig := by
  simp [step, h]

theorem step_of_reset {s : State} (h : configLegal s.cfg = true) (hr : rstNow s = false) :
    step s = .next (resetCycle s) := by
  simp [step, h, hr]

theorem step_of_exec {s t : State} (h : configLegal s.cfg = true) (hr : rstNow s = true)
    (he : exec (fetch s) (takeInputs s) = .next t) : step s = .next (retire (hostNow s) t) := by
  simp [step, h, hr, he]

end Sys2Proof.Machine
end

