-- ==== Sys2Proof/Laws/PerInstr.lean ====
section
/-! SUPPORT. Facts about every instruction as syntax, one lemma for each constructor. -/

namespace Sys2Proof.Laws.TableRowMatch

/-- A well-formed instruction's word lies in its row of spec/opcode_table.json: `(T & mask) == match`. -/
def Statement (i : Instr) : Prop :=
  wellFormed i = true → ∀ row, tableRow i = some row → (encode i).value &&& row.mask = row.pattern

/-- A row that fixes `W` and `ADDR[7:2]`. -/
theorem of_register {i : Instr} (w : Bool) (slot : BitVec 6) (lane : BitVec 2) (d : RegWord)
    (he : encode i = .bus (txnWord w slot lane d))
    (hr : tableRow i = some ⟨(txnWord w slot 0#2 0#32).toNat, 0x1FC00000000⟩) : Statement i := by
  intro _ row h
  obtain rfl : _ = row := Option.some.inj (hr.symm.trans h)
  rw [he]; exact and_registerMask w slot lane d

theorem rdCtrl (lane : BitVec 2) (wdata : RegWord) : Statement (.rdCtrl lane wdata) :=
  of_register false 0#6 lane wdata rfl rfl
theorem rdStatus (lane : BitVec 2) (wdata : RegWord) : Statement (.rdStatus lane wdata) :=
  of_register false 1#6 lane wdata rfl rfl
theorem rdRaw0 (lane : BitVec 2) (wdata : RegWord) : Statement (.rdRaw0 lane wdata) :=
  of_register false 2#6 lane wdata rfl rfl
theorem rdRaw1 (lane : BitVec 2) (wdata : RegWord) : Statement (.rdRaw1 lane wdata) :=
  of_register false 3#6 lane wdata rfl rfl
theorem rdHum (lane : BitVec 2) (wdata : RegWord) : Statement (.rdHum lane wdata) :=
  of_register false 4#6 lane wdata rfl rfl
theorem rdTemp (lane : BitVec 2) (wdata : RegWord) : Statement (.rdTemp lane wdata) :=
  of_register false 5#6 lane wdata rfl rfl
theorem rdTemps (lane : BitVec 2) (wdata : RegWord) : Statement (.rdTemps lane wdata) :=
  of_register false 6#6 lane wdata rfl rfl
theorem rdRsvd (slot : BitVec 6) (lane : BitVec 2) (wdata : RegWord) : Statement (.rdRsvd slot lane wdata) := by
  intro _ row h
  obtain rfl : _ = row := Option.some.inj h
  exact and_writeMask false slot lane wdata
theorem wrCtrlStart (lane : BitVec 2) (wdata : RegWord) : Statement (.wrCtrlStart lane wdata) := by
  intro h0 row h
  obtain rfl : _ = row := Option.some.inj h
  have hw : wdata.getLsbD 0 = true := h0
  refine (and_controlMask true 0#6 lane wdata).trans ?_
  rw [and_one_of_bit, hw]; rfl
theorem wrCtrlNostart (lane : BitVec 2) (wdata : RegWord) : Statement (.wrCtrlNostart lane wdata) := by
  intro h0 row h
  obtain rfl : _ = row := Option.some.inj h
  have hw : wdata.getLsbD 0 = false := by simpa [wellFormed] using h0
  refine (and_controlMask true 0#6 lane wdata).trans ?_
  rw [and_one_of_bit, hw]; rfl
theorem wrStatus (lane : BitVec 2) (wdata : RegWord) : Statement (.wrStatus lane wdata) :=
  of_register true 1#6 lane wdata rfl rfl
theorem wrRaw0 (lane : BitVec 2) (wdata : RegWord) : Statement (.wrRaw0 lane wdata) :=
  of_register true 2#6 lane wdata rfl rfl
theorem wrRaw1 (lane : BitVec 2) (wdata : RegWord) : Statement (.wrRaw1 lane wdata) :=
  of_register true 3#6 lane wdata rfl rfl
theorem wrHum (lane : BitVec 2) (wdata : RegWord) : Statement (.wrHum lane wdata) :=
  of_register true 4#6 lane wdata rfl rfl
theorem wrTemp (lane : BitVec 2) (wdata : RegWord) : Statement (.wrTemp lane wdata) :=
  of_register true 5#6 lane wdata rfl rfl
theorem wrTemps (lane : BitVec 2) (wdata : RegWord) : Statement (.wrTemps lane wdata) :=
  of_register true 6#6 lane wdata rfl rfl
theorem wrRsvd (slot : BitVec 6) (lane : BitVec 2) (wdata : RegWord) : Statement (.wrRsvd slot lane wdata) := by
  intro _ row h
  obtain rfl : _ = row := Option.some.inj h
  exact and_writeMask true slot lane wdata
theorem nop : Statement .nop := fun _ _ h => nomatch h
theorem idle : Statement .idle := fun _ _ h => Option.some.inj h ▸ rfl
theorem startLow : Statement .startLow := fun _ _ h => Option.some.inj h ▸ rfl
theorem startHigh : Statement .startHigh := fun _ _ h => Option.some.inj h ▸ rfl
theorem awaitReleaseHigh : Statement .awaitReleaseHigh := fun _ _ h => Option.some.inj h ▸ rfl
theorem awaitAckLow : Statement .awaitAckLow := fun _ _ h => Option.some.inj h ▸ rfl
theorem awaitAckHigh : Statement .awaitAckHigh := fun _ _ h => Option.some.inj h ▸ rfl
theorem bitWaitLow : Statement .bitWaitLow := fun _ _ h => Option.some.inj h ▸ rfl
theorem bitMeasureHigh : Statement .bitMeasureHigh := fun _ _ h => Option.some.inj h ▸ rfl
theorem checksumCheck : Statement .checksumCheck := fun _ _ h => Option.some.inj h ▸ rfl
theorem success : Statement .success := fun _ _ h => Option.some.inj h ▸ rfl
theorem timeout : Statement .timeout := fun _ _ h => Option.some.inj h ▸ rfl
theorem chkerr : Statement .chkerr := fun _ _ h => Option.some.inj h ▸ rfl
theorem rsvdState (low : BitVec 2) : Statement (.rsvdState low) := by
  intro _ row h
  obtain rfl : _ = row := Option.some.inj h
  revert low; decide

end Sys2Proof.Laws.TableRowMatch
end

