-- ==== Sys2Proof/Tests/Slice0.lean ====
section
/-! SUPPORT. Tests against values written in the spec (the rules' examples, spec file 95), and a witness of the hypotheses of every statement that has some. -/

namespace Sys2Proof.Machine.Slice0

/-! ### Helpers -/

/-- The state of an answer, if it is a next state. -/
def nextState : Host.Outcome State Fault Refusal → Option State
  | .next s => some s
  | .fault _ => none
  | .refused _ => none

/-- Reset, with a synchroniser and a line whose levels are known: both high. -/
def idle0 : State := { State.reset with sync := [true, true], lineIn := [true, true, true] }

/-- The frame of L1.6. -/
def frame16 : Frame := ⟨0x02#8, 0x8D#8, 0x00#8, 0xED#8, 0x7C#8⟩

/-- The end state of L1.6. -/
def success16 : State :=
  { idle0 with state := .success, elapsed := 23704, pulseCnt := 28, bitIdx := 40, buf := frame16, out := frame16,
               result := 1#2, done := true }

/-- The tick before the end of L1.6. -/
def check16 : State :=
  { idle0 with state := .checksumCheck, elapsed := 23703, pulseCnt := 28, bitIdx := 40, buf := frame16 }

/-- The timeout of L1.8. -/
def timeout18 : State :=
  { idle0 with state := .timeout, elapsed := 21305, pulseCnt := 200, bitIdx := 10, buf := ⟨0x02#8, 0x80#8, 0#8, 0#8, 0#8⟩,
               result := 2#2, done := true, failState := 7#4 }

/-- START_LOW right after an accepted START. -/
def started0 : State := { idle0 with state := .startLow, lineOe := true, lineO := false }

/-- A state of the bit loop or the handshake at the given tick, with the line as given. -/
def receiving (fsm : FsmState) (elapsed : Nat) (level : Bool) : State :=
  { idle0 with state := fsm, elapsed := elapsed, sync := [level, level] }

/-! ### Well-formedness refuses what no word stands for -/

theorem test_wf_refuses_read_of_used_slot : wellFormed (.rdRsvd 3#6 0#2 0#32) = false := by decide
theorem test_wf_refuses_write_of_used_slot : wellFormed (.wrRsvd 0#6 0#2 0#32) = false := by decide
theorem test_wf_refuses_start_without_bit0 : wellFormed (.wrCtrlStart 0#2 2#32) = false := by decide
theorem test_wf_refuses_nostart_with_bit0 : wellFormed (.wrCtrlNostart 0#2 1#32) = false := by decide
theorem test_wf_accepts_boundary_slots : wellFormed (.rdRsvd 7#6 0#2 0#32) = true ∧ wellFormed (.wrRsvd 63#6 0#2 0#32) = true := by
  decide

/-! ### Decoding: words written out from R110, R112 and R115 -/

theorem test_decode_reads :
    decode (.bus 0b0_00000000_00000000000000000000000000000000#41) = .rdCtrl 0#2 0#32
    ∧ decode (.bus 0b0_00000111_00000000000000000000000000000000#41) = .rdStatus 3#2 0#32
    ∧ decode (.bus 0b0_00001000_00000000000000000000000000000001#41) = .rdRaw0 0#2 1#32
    ∧ decode (.bus 0b0_00001100_00000000000000000000000000000000#41) = .rdRaw1 0#2 0#32
    ∧ decode (.bus 0b0_00010000_00000000000000000000000000000000#41) = .rdHum 0#2 0#32
    ∧ decode (.bus 0b0_00010100_00000000000000000000000000000000#41) = .rdTemp 0#2 0#32
    ∧ decode (.bus 0b0_00011000_00000000000000000000000000000000#41) = .rdTemps 0#2 0#32
    ∧ decode (.bus 0b0_00011100_00000000000000000000000000000000#41) = .rdRsvd 7#6 0#2 0#32
    ∧ decode (.bus 0b0_11111101_00000000000000000000000000000000#41) = .rdRsvd 63#6 1#2 0#32 := by decide

theorem test_decode_writes :
    decode (.bus 0b1_00000000_00000000000000000000000000000001#41) = .wrCtrlStart 0#2 1#32
    ∧ decode (.bus 0b1_00000001_10000000000000000000000000000000#41) = .wrCtrlNostart 1#2 0x80000000#32
    ∧ decode (.bus 0b1_00000100_00000000000000000000000000001000#41) = .wrStatus 0#2 8#32
    ∧ decode (.bus 0b1_00001000_00000000000000000000000000000000#41) = .wrRaw0 0#2 0#32
    ∧ decode (.bus 0b1_00001100_00000000000000000000000000000001#41) = .wrRaw1 0#2 1#32
    ∧ decode (.bus 0b1_00010000_00000000000000000001001000110100#41) = .wrHum 0#2 0x1234#32
    ∧ decode (.bus 0b1_00010110_00000000000000001000000000000000#41) = .wrTemp 2#2 0x8000#32
    ∧ decode (.bus 0b1_00011000_00000000000000000000000000000001#41) = .wrTemps 0#2 1#32
    ∧ decode (.bus 0b1_11111100_00000000000000000000000000000001#41) = .wrRsvd 63#6 0#2 1#32 := by decide

theorem test_decode_states :
    decode .noTxn = .nop ∧ decode (.fsm 0b0000#4) = .idle ∧ decode (.fsm 0b0001#4) = .startLow
    ∧ decode (.fsm 0b0010#4) = .startHigh ∧ decode (.fsm 0b0011#4) = .awaitReleaseHigh
    ∧ decode (.fsm 0b0100#4) = .awaitAckLow ∧ decode (.fsm 0b0101#4) = .awaitAckHigh
    ∧ decode (.fsm 0b0110#4) = .bitWaitLow ∧ decode (.fsm 0b0111#4) = .bitMeasureHigh
    ∧ decode (.fsm 0b1000#4) = .checksumCheck ∧ decode (.fsm 0b1001#4) = .success ∧ decode (.fsm 0b1010#4) = .timeout
    ∧ decode (.fsm 0b1011#4) = .chkerr ∧ decode (.fsm 0b1100#4) = .rsvdState 0#2
    ∧ decode (.fsm 0b1111#4) = .rsvdState 3#2 := by decide

theorem test_bytes_lowest_first : decodeBytes .bus [0x03#8, 0#8, 0#8, 0#8, 0x00#8, 0x01#8] = .ok (.wrCtrlStart 0#2 3#32) := by
  rfl
theorem test_bytes_stray_bit_refused : decodeBytes .bus [0#8, 0#8, 0#8, 0#8, 0#8, 0x02#8] = .error (.strayBits 0x20000000000) := by
  rfl
theorem test_bytes_short_refused : decodeBytes .bus [0#8] = .error (.wrongLength 1) := by rfl
theorem test_bytes_stray_state_refused : decodeBytes .fsm [0x10#8] = .error (.strayBits 16) := by rfl
theorem test_table_words :
    decodeTableWord 41 0x10400000008 = some (.wrStatus 0#2 8#32) ∧ decodeTableWord 48 0x10400000008 = some (.wrStatus 0#2 8#32)
    ∧ decodeTableWord 4 7 = some .bitMeasureHigh ∧ decodeTableWord 8 15 = some (.rsvdState 3#2)
    ∧ decodeTableWord 0 0 = some .nop ∧ decodeTableWord 41 0x20000000000 = none := by decide

/-! ### The assembler (R140 to R142; the words of programs P1 and P4) -/

theorem test_assembler_words :
    asmStart = .txn 0x10000000001#41 ∧ asmStartI = .txn 0x10000000003#41 ∧ asmAck = .txn 0x10400000008#41
    ∧ asmRd addrTempS = .txn 0x01800000000#41 ∧ asmWr addrRaw0 0#32 = .txn 0x10800000000#41 := by decide
theorem test_line_runs : lineRuns [(true, 2), (false, 3)] = [true, true, false, false, false] := by decide

/-! ### Host reads -/

/-- L2.1.4. -/
theorem test_rdCtrl : (nextState (exec (.rdCtrl 0#2 0#32) { idle0 with ie := true })).map State.rdata = some 0x00000002#32 := by
  decide
/-- L2.1.4: START_LOW. -/
theorem test_rdStatus_busy : (nextState (exec (.rdStatus 1#2 0#32) started0)).map State.rdata = some 0x00000014#32 := by decide
/-- L1.8 and L1.6. -/
theorem test_rdStatus_done :
    (nextState (exec (.rdStatus 0#2 0#32) timeout18)).map State.rdata = some 0x00070AAA#32
    ∧ (nextState (exec (.rdStatus 0#2 0#32) success16)).map State.rdata = some 0x00002899#32 := by decide
/-- L1.6. -/
theorem test_rdRaw0 : (nextState (exec (.rdRaw0 0#2 0#32) success16)).map State.rdata = some 0xED008D02#32 := by decide
/-- L1.6. -/
theorem test_rdRaw1 : (nextState (exec (.rdRaw1 0#2 0#32) success16)).map State.rdata = some 0x0000007C#32 := by decide
/-- L1.6. -/
theorem test_rdHum : (nextState (exec (.rdHum 0#2 0#32) success16)).map State.rdata = some 0x0000028D#32 := by decide
/-- L2.7.5, a negative zero. -/
theorem test_rdTemp : (nextState (exec (.rdTemp 0#2 0#32)
    { success16 with out := ⟨0#8, 0#8, 0x80#8, 0#8, 0x80#8⟩ })).map State.rdata = some 0x00008000#32 := by decide
/-- L2.7.6. -/
theorem test_rdTemps : (nextState (exec (.rdTemps 0#2 0#32)
    { success16 with out := ⟨0x02#8, 0x8D#8, 0x80#8, 0x65#8, 0x74#8⟩ })).map State.rdata = some 0xFFFFFF9B#32 := by decide
/-- L2.7.5 and L2.7.3. -/
theorem test_rdTemps_corners :
    tempsView { success16 with out := ⟨0#8, 0#8, 0x80#8, 0#8, 0x80#8⟩ } = 0#32
    ∧ tempsView { success16 with out := ⟨0xFF#8, 0xFF#8, 0xFF#8, 0xFF#8, 0xFC#8⟩ } = 0xFFFF8001#32 := by decide
/-- L2.1.12. -/
theorem test_rdRsvd : (nextState (exec (.rdRsvd 63#6 0#2 0#32) success16)).map State.rdata = some 0#32 := by decide

/-! ### Host writes -/

/-- L2.1.4. -/
theorem test_wrCtrlStart_idle :
    (nextState (exec (.wrCtrlStart 0#2 3#32) idle0)).map (fun s => (s.state, s.lineOe, s.lineO, s.ie))
      = some (.startLow, true, false, true) := by decide
/-- L2.1.16: a START in the cycle that enters SUCCESS is lost. -/
theorem test_wrCtrlStart_race :
    (nextState (exec (.wrCtrlStart 0#2 1#32) check16)).map (fun s => (s.state, s.done, s.out)) = some (.success, true, frame16) := by
  decide
/-- L2.1.17. -/
theorem test_wrCtrlNostart : (nextState (exec (.wrCtrlNostart 0#2 2#32) timeout18)).map irq = some true := by decide
/-- L2.1.8. -/
theorem test_wrStatus :
    (nextState (exec (.wrStatus 0#2 8#32) success16)).map (fun s => (s.done, s.result, s.out)) = some (false, 1#2, frame16) := by
  decide
/-- L2.1.15. -/
theorem test_wrStatus_race : (nextState (exec (.wrStatus 0#2 8#32) check16)).map (fun s => (s.state, s.done)) = some (.success, true) := by
  decide
/-- L2.1.14. -/
theorem test_wrRaw0 : (nextState (exec (.wrRaw0 0#2 0#32) success16)).map raw0View = some 0xED008D02#32 := by decide
/-- R158's example. -/
theorem test_wrRaw1 : (nextState (exec (.wrRaw1 0#2 1#32) success16)).map raw1View = some 0x7C#32 := by decide
/-- L2.1.13. -/
theorem test_wrHum : (nextState (exec (.wrHum 0#2 0x1234#32) success16)).map humView = some 0x28D#32 := by decide
/-- R160's example. -/
theorem test_wrTemp : (nextState (exec (.wrTemp 0#2 0x8000#32) success16)).map tempView = some 0xED#32 := by decide
/-- R161's example. -/
theorem test_wrTemps : (nextState (exec (.wrTemps 0#2 1#32) success16)).map tempsView = some 0xED#32 := by decide
/-- R171's example. -/
theorem test_wrRsvd : (nextState (exec (.wrRsvd 63#6 0#2 1#32) success16)).map (fun s => (s.state, s.done, s.ie))
    = some (.success, true, false) := by decide

/-! ### The cycle and the ticks -/

/-- R49: the second cycle of three is no tick. -/
theorem test_nop_no_tick :
    (nextState (exec .nop { started0 with cfg := { Config.default with clkPerTick := 3 }, presc := 1 })).map
      (fun s => (s.presc, s.elapsed)) = some (2, 0) := by decide
/-- R50: the pin enters the first stage, the first stage the second. -/
theorem test_nop_synchroniser :
    (nextState (exec .nop { idle0 with sync := [true, false], lineIn := [false] })).map State.sync = some [false, true] := by decide
/-- R202. -/
theorem test_idle : (nextState (exec .idle idle0)) = some idle0 := by decide
/-- L2.2: tick 20000. -/
theorem test_startLow :
    (nextState (exec .startLow { started0 with elapsed := 19999, phaseCnt := 19999 })).map
      (fun s => (s.state, s.lineOe, s.lineO, s.phaseCnt, s.elapsed)) = some (.startHigh, true, true, 0, 20000) := by decide
/-- L2.2: tick 20040. -/
theorem test_startHigh :
    (nextState (exec .startHigh { started0 with state := .startHigh, lineO := true, elapsed := 20039, phaseCnt := 39 })).map
      (fun s => (s.state, s.lineOe, s.lineO, s.phaseCnt, s.elapsed)) = some (.awaitReleaseHigh, false, true, 0, 20040) := by decide
/-- L2.3.3: the first low sample at tick 300000. -/
theorem test_awaitReleaseHigh_last :
    (nextState (exec .awaitReleaseHigh (receiving .awaitReleaseHigh 299999 false))).map State.state = some .awaitAckLow := by decide
/-- L2.3.4: the first low sample at tick 300001. -/
theorem test_awaitReleaseHigh_late :
    (nextState (exec .awaitReleaseHigh (receiving .awaitReleaseHigh 300000 false))).map statusView = some 0x000300AA#32 := by decide
/-- L2.3.1. -/
theorem test_awaitAckLow :
    (nextState (exec .awaitAckLow (receiving .awaitAckLow 20150 true))).map State.state = some .awaitAckHigh := by decide
/-- L2.3.1 and L2.3.7. -/
theorem test_awaitAckHigh :
    (nextState (exec .awaitAckHigh (receiving .awaitAckHigh 20230 false))).map State.state = some .bitWaitLow
    ∧ (nextState (exec .awaitAckHigh (receiving .awaitAckHigh 300000 true))).map statusView = some 0x000500AA#32 := by decide
/-- L2.4: tick 20281. -/
theorem test_bitWaitLow :
    (nextState (exec .bitWaitLow (receiving .bitWaitLow 20280 true))).map (fun s => (s.state, s.pulseCnt))
      = some (.bitMeasureHigh, 1) := by decide
/-- L2.4: tick 20327, and its row for 45. -/
theorem test_bitMeasureHigh_threshold :
    (nextState (exec .bitMeasureHigh { receiving .bitMeasureHigh 20326 false with pulseCnt := 46 })).map
      (fun s => (s.state, s.bitIdx, s.buf.b0)) = some (.bitWaitLow, 1, 0x80#8)
    ∧ (nextState (exec .bitMeasureHigh { receiving .bitMeasureHigh 20325 false with pulseCnt := 45 })).map
      (fun s => (s.state, s.bitIdx, s.buf.b0)) = some (.bitWaitLow, 1, 0x00#8) := by decide
/-- L1.4: the 201st high sample. -/
theorem test_bitMeasureHigh_cap :
    (nextState (exec .bitMeasureHigh { receiving .bitMeasureHigh 20480 true with pulseCnt := 200 })).map statusView
      = some 0x000700AA#32 := by decide
/-- L2.7.1 and L2.7.2. -/
theorem test_checksumCheck :
    (nextState (exec .checksumCheck check16)).map (fun s => (statusView s, s.out)) = some (0x00002899#32, frame16)
    ∧ (nextState (exec .checksumCheck { check16 with buf := { frame16 with b3 := 0xEC#8 } })).map (fun s => (statusView s, s.out))
      = some (0x000828BB#32, Frame.zero) := by decide
/-- L2.6. -/
theorem test_checksumCheck_late :
    (nextState (exec .checksumCheck { check16 with cfg := { Config.default with deadlineUs := 20123 }, elapsed := 20123 })).map
      statusView = some 0x000828AA#32 := by decide
/-- R315: a terminal state stays. -/
theorem test_success : nextState (exec .success success16) = some success16 := by decide
/-- R316. -/
theorem test_timeout : nextState (exec .timeout timeout18) = some timeout18 := by decide
/-- R317. -/
theorem test_chkerr : (nextState (exec .chkerr { success16 with state := .chkerr })).map State.state = some .chkerr := by decide
/-- R116. -/
theorem test_rsvdState : (nextState (exec (.rsvdState 2#2) { idle0 with state := .rsvd 2#2 })).map State.elapsed = some 0 := by
  decide

/-- L2.5. -/
theorem test_assemble :
    assemble Frame.zero 0 true = ⟨0x80#8, 0#8, 0#8, 0#8, 0#8⟩ ∧ assemble Frame.zero 9 true = ⟨0#8, 0x40#8, 0#8, 0#8, 0#8⟩
    ∧ assemble Frame.zero 39 true = ⟨0#8, 0#8, 0#8, 0#8, 1#8⟩ ∧ assemble frame16 9 false = frame16 := by decide

/-- L2.7's f32 columns. -/
theorem test_f32 :
    humidityF32 frame16 = 0x4282999A#32 ∧ temperatureF32 frame16 = 0x41BD999A#32
    ∧ temperatureF32 ⟨0x02#8, 0x8D#8, 0x80#8, 0x65#8, 0x74#8⟩ = 0xC121999A#32
    ∧ temperatureF32 ⟨0#8, 0#8, 0x80#8, 0#8, 0x80#8⟩ = 0x80000000#32 := by decide +kernel
/-- L2.7's f32 columns. -/
theorem test_f32_corners :
    humidityF32 ⟨0xFF#8, 0xFF#8, 0xFF#8, 0xFF#8, 0xFC#8⟩ = 0x45CCCC00#32
    ∧ temperatureF32 ⟨0xFF#8, 0xFF#8, 0xFF#8, 0xFF#8, 0xFC#8⟩ = 0xC54CCB33#32
    ∧ humidityF32 ⟨0x03#8, 0xE8#8, 0x00#8, 0x2D#8, 0x18#8⟩ = 0x42C80000#32
    ∧ humidityF32 ⟨0x00#8, 0x01#8, 0x80#8, 0x01#8, 0x82#8⟩ = 0x3DCCCCCD#32 := by decide +kernel

/-! ### The step -/

/-- R390. -/
theorem test_reset_cycle :
    (nextState (step { started0 with rstIn := [false], hostIn := [.txn 0x10000000003#41] })).map
      (fun s => (s.state, s.lineOe, s.ie, s.hostIn)) = some (.idle, false, false, []) := by decide
/-- R141: WAITDONE ends with the read of DONE = 1, and goes on before. -/
theorem test_waitDone :
    (nextState (step { success16 with hostIn := asmRead.tail })).map (fun s => s.hostIn.length) = some 2
    ∧ (nextState (step { started0 with hostIn := asmRead.tail })).map (fun s => s.hostIn.length) = some 3 := by decide
/-- A placed word runs as the first instruction. -/
theorem test_withFetchWord :
    (nextState (step (State.reset.withFetchWord 41 0x10000000003))).map (fun s => (s.state, s.ie)) = some (.startLow, true)
    ∧ (nextState (step (State.reset.withFetchWord 4 1))).map (fun s => (s.state, s.elapsed)) = some (.startLow, 1) := by decide
/-- R10: `START_HIGH_US` is at most 50. -/
theorem test_illegal_config : nextState (step { idle0 with cfg := { Config.default with startHighUs := 51 } }) = none := by decide

/-! ### Witnesses: states and operands that meet the hypotheses of the statements

Each is named after its statement, and has one part for each clause, at a boundary of its range. -/

/-- DecodeOfEncodeIsTheInstruction, EveryWordIsExactlyOneInstruction. -/
theorem witness_wellFormed :
    wellFormed (.wrRsvd 63#6 3#2 0xFFFFFFFF#32) = true
    ∧ wellFormed (.wrCtrlStart 3#2 1#32) = true ∧ encode (.wrCtrlStart 3#2 1#32) = .bus 0x10300000001#41 := by decide

/-- StepRunsTheInstructionTheHostIssues. -/
theorem witness_StepRunsTheInstructionTheHostIssues :
    configLegal idle0.cfg = true ∧ idle0.rstIn.head? ≠ some false ∧ idle0.hostIn = []
    ∧ { idle0 with hostIn := [.txn 0x10000000003#41, .nop] }.hostIn = .txn 0x10000000003#41 :: [.nop]
    ∧ { idle0 with hostIn := [.nop] }.hostIn = .nop :: [] ∧ { idle0 with hostIn := [.waitDone] }.hostIn = .waitDone :: [] := by
  decide

/-- TickRunsTheRowOfTheStateRegister: the last and the first cycle of a tick. -/
theorem witness_TickRunsTheRowOfTheStateRegister :
    idle0.presc + 1 = idle0.cfg.clkPerTick
    ∧ { idle0 with cfg := { Config.default with clkPerTick := 2 } }.presc + 1
      ≠ { idle0 with cfg := { Config.default with clkPerTick := 2 } }.cfg.clkPerTick := by decide

/-- EveryTransactionCompletes, InvariantAfterReset: the defaults, and the smallest legal deadline (L2.2). -/
theorem witness_configLegal :
    configLegal Config.default = true ∧ configLegal { Config.default with deadlineUs := 20041 } = true
    ∧ configLegal { Config.default with deadlineUs := 20040 } = false := by decide

/-- ResetInputAbortsTheExchange. -/
theorem witness_ResetInputAbortsTheExchange :
    configLegal check16.cfg = true ∧ { check16 with rstIn := [false] }.rstIn = false :: [] := by decide

/-- The invariant, and a step from the state. -/
theorem witness_StateInv_idle : StateInv idle0 ∧ ∃ t, step idle0 = .next t :=
  ⟨⟨by decide, by decide, by decide, by decide, by decide, ⟨rfl, rfl, rfl, rfl⟩, ⟨rfl, rfl, rfl⟩, rfl, rfl⟩, _, rfl⟩

/-- StartIsAcceptedUnlessBusy: the codes 1 and 8, and 0, 9 and 15. -/
theorem witness_StartIsAcceptedUnlessBusy :
    (1 ≤ started0.state.code.toNat ∧ started0.state.code.toNat ≤ 8)
    ∧ (1 ≤ check16.state.code.toNat ∧ check16.state.code.toNat ≤ 8)
    ∧ ¬ (1 ≤ idle0.state.code.toNat ∧ idle0.state.code.toNat ≤ 8)
    ∧ ¬ (1 ≤ success16.state.code.toNat ∧ success16.state.code.toNat ≤ 8)
    ∧ ¬ (1 ≤ (FsmState.rsvd 3#2).code.toNat ∧ (FsmState.rsvd 3#2).code.toNat ≤ 8) := by decide

/-- The reads' and writes' further clauses: a reserved slot, WDATA[0] of each value, and a sound state other than SUCCESS
(`witness_StateInv_idle`, and busy in `witness_StateInv_busy`). -/
theorem witness_access_clauses :
    7 ≤ (7#6).toNat ∧ 7 ≤ (63#6).toNat ∧ (1#32).getLsbD 0 = true ∧ (2#32).getLsbD 0 = false ∧ idle0.state ≠ .success
    ∧ check16.state ≠ .success := by decide

/-- StatusWriteClearsDoneUnlessJustSet: bit 3 clear, the race, and the plain clear. -/
theorem witness_StatusWriteClearsDoneUnlessJustSet :
    (0xFFFFFFF7#32).getLsbD 3 = false
    ∧ (∃ t, exec .nop check16 = .next t ∧ busy check16 = true ∧ busy t = false)
    ∧ (∃ t, exec .nop success16 = .next t ∧ (8#32).getLsbD 3 = true ∧ ¬ (busy success16 = true ∧ busy t = false)) :=
  ⟨by decide, ⟨_, rfl, by decide, by decide⟩, ⟨_, rfl, by decide, by decide⟩⟩

/-- RestingStatesAreUnchangedByATick: a state of each kind. -/
theorem witness_RestingStatesAreUnchangedByATick :
    busy idle0 = false ∧ busy success16 = false ∧ busy timeout18 = false ∧ busy { idle0 with state := .chkerr } = false
    ∧ busy { idle0 with state := .rsvd 0#2 } = false := by decide

/-- StartLowTick: its last tick and the one before. -/
theorem witness_StartLowTick :
    started0.state = .startLow ∧ { started0 with phaseCnt := 19999 }.phaseCnt + 1 = started0.cfg.startLowUs
    ∧ { started0 with phaseCnt := 19998 }.phaseCnt + 1 ≠ started0.cfg.startLowUs := by decide

/-- START_HIGH, its last tick. -/
def startHigh39 : State := { idle0 with state := .startHigh, lineOe := true, elapsed := 20039, phaseCnt := 39 }

/-- StartHighTick: its last tick and the one before. -/
theorem witness_StartHighTick :
    startHigh39.state = .startHigh ∧ startHigh39.phaseCnt + 1 = startHigh39.cfg.startHighUs
    ∧ { startHigh39 with phaseCnt := 38 }.phaseCnt + 1 ≠ startHigh39.cfg.startHighUs := by decide

/-- HandshakeTicks, and BitWaitLowTick: both samples, at the last tick before the deadline. -/
theorem witness_HandshakeTicks :
    ∀ l : Bool, (receiving .awaitReleaseHigh 299999 l).sync[(receiving .awaitReleaseHigh 299999 l).cfg.syncStages - 1]? = some l
      ∧ (receiving .awaitReleaseHigh 299999 l).elapsed + 1 ≤ Config.default.deadlineUs
      ∧ (receiving .awaitReleaseHigh 299999 l).state = .awaitReleaseHigh
      ∧ (receiving .awaitAckLow 299999 l).state = .awaitAckLow ∧ (receiving .awaitAckHigh 299999 l).state = .awaitAckHigh
      ∧ (receiving .bitWaitLow 299999 l).state = .bitWaitLow := by decide

/-- HandshakeTicks: a sound state in AWAIT_ACK_HIGH. -/
theorem witness_StateInv_awaitAckHigh : StateInv (receiving .awaitAckHigh 299999 true) :=
  ⟨by decide, by decide, by decide, by decide, by decide, ⟨rfl, rfl, rfl, rfl⟩, ⟨rfl, rfl, rfl⟩, rfl, by decide, by decide⟩

/-- DeadlineComesFirst: the first tick past the deadline, in the first and the last state that tests it. -/
theorem witness_DeadlineComesFirst :
    (receiving .awaitReleaseHigh 300000 true).cfg.deadlineUs < (receiving .awaitReleaseHigh 300000 true).elapsed + 1
    ∧ 3 ≤ (receiving .awaitReleaseHigh 300000 true).state.code.toNat
    ∧ (receiving .awaitReleaseHigh 300000 true).state.code.toNat ≤ 8
    ∧ Instr.awaitReleaseHigh = decode (.fsm (receiving .awaitReleaseHigh 300000 true).state.code)
    ∧ Instr.checksumCheck = decode (.fsm (receiving .checksumCheck 300000 true).state.code)
    ∧ (receiving .checksumCheck 300000 true).state.code.toNat = 8 := by decide

/-- BitMeasureHighTick (and the deadline clause of BitWaitLowTick and ChecksumCheckTick): a high sample up to the cap, one past
it, and a low sample. -/
theorem witness_BitMeasureHighTick :
    (receiving .bitMeasureHigh 299999 true).sync[1]? = some true ∧ (receiving .bitMeasureHigh 299999 false).sync[1]? = some false
    ∧ (receiving .bitMeasureHigh 299999 true).elapsed + 1 ≤ Config.default.deadlineUs
    ∧ Config.default.deadlineUs < (receiving .bitMeasureHigh 300000 true).elapsed + 1
    ∧ { receiving .bitMeasureHigh 299999 true with pulseCnt := 199 }.pulseCnt + 1 ≤ Config.default.pulseCap
    ∧ Config.default.pulseCap < { receiving .bitMeasureHigh 299999 true with pulseCnt := 200 }.pulseCnt + 1 := by decide

/-- AssembleSetsOneBit: the last bit of the last byte. -/
theorem witness_AssembleSetsOneBit : 39 < 40 ∧ 7 < 8 ∧ (0 : Nat) = 7 - 39 % 8 := by decide

/-- ChecksumCheckTick: a right and a wrong sum at the last tick before the deadline. -/
theorem witness_ChecksumCheckTick :
    { check16 with elapsed := 299999 }.elapsed + 1 ≤ check16.cfg.deadlineUs ∧ check16.state = .checksumCheck
    ∧ check16.buf.b4.toNat
      = (check16.buf.b0.toNat + check16.buf.b1.toNat + check16.buf.b2.toNat + check16.buf.b3.toNat) % 256
    ∧ (0xFB#8).toNat ≠ ((0xFF#8).toNat + (0xFF#8).toNat + (0xFF#8).toNat + (0xFF#8).toNat) % 256 := by decide

/-- DeadlineIsOutOfReachInTheStartPulse: the start pulse's first and last tick. -/
theorem witness_DeadlineIsOutOfReachInTheStartPulse :
    (StateInv started0 ∧ started0.state = .startLow) ∧ (StateInv startHigh39 ∧ startHigh39.state = .startHigh) :=
  ⟨⟨⟨by decide, by decide, by decide, by decide, by decide,
      ⟨rfl, rfl, rfl, rfl⟩, ⟨rfl, rfl, rfl⟩, rfl, by decide⟩, rfl⟩,
    ⟨⟨by decide, by decide, by decide, by decide, by decide,
      ⟨rfl, rfl, rfl, rfl⟩, ⟨rfl, rfl, rfl⟩, rfl, by decide⟩, rfl⟩⟩

/-- HostCannotDisturbARunningExchange, EveryExchangeEnds, DeadlineComesFirst, LineSampleIsLateByTheSynchroniser, CountersFitTheirWidths:
the tick before the end of L1.6. -/
theorem witness_StateInv_busy :
    StateInv check16 ∧ busy check16 = true ∧ noReset check16 ∧ check16.lineIn = true :: [true, true]
    ∧ (∃ t, exec (decode (.bus 0x10000000001#41)) check16 = .next t) ∧ ∃ u, exec .nop check16 = .next u :=
  ⟨⟨by decide, by decide, by decide, by decide, by decide,
      ⟨rfl, rfl, rfl, rfl⟩, ⟨rfl, by decide, by decide⟩, rfl, by decide, by decide⟩,
    by decide, (fun _ h => absurd h (by simp [check16, idle0, State.reset, State.resetWith])), rfl, ⟨_, rfl⟩, ⟨_, rfl⟩⟩

/-- OnlyStartLeavesATerminalState: each terminal state, and a step. -/
theorem witness_OnlyStartLeavesATerminalState :
    success16.state = .success ∧ timeout18.state = .timeout ∧ { idle0 with state := .chkerr }.state = .chkerr
    ∧ success16.rstIn.head? ≠ some false ∧ ∃ t, step success16 = .next t :=
  ⟨rfl, rfl, rfl, by decide, _, rfl⟩

/-- StateRegisterChangesOnlyByTickStartOrReset, OutputsComeOnlyFromAGoodFrame: a step that fills the outputs, and one that
clears them. -/
theorem witness_step_changes_state_and_outputs :
    (∃ t, step check16 = .next t ∧ t.state ≠ check16.state ∧ t.out ≠ check16.out)
    ∧ (∃ t, step { success16 with hostIn := [asmStart] } = .next t ∧ t.state ≠ success16.state ∧ t.out ≠ success16.out) :=
  ⟨⟨_, rfl, by decide, by decide⟩, ⟨_, rfl, by decide, by decide⟩⟩

/-- InterruptFollowsDoneAndEnable: the entry with IE = 1, the clear, and the START. -/
theorem witness_InterruptFollowsDoneAndEnable :
    (∃ t, exec .nop { check16 with ie := true } = .next t ∧ busy { check16 with ie := true } = true ∧ busy t = false)
    ∧ (∃ t, exec .nop success16 = .next t ∧ (8#32).getLsbD 3 = true ∧ ¬ (busy success16 = true ∧ busy t = false))
    ∧ busy success16 = false :=
  ⟨⟨_, rfl, by decide, by decide⟩, ⟨_, rfl, by decide, by decide⟩, by decide⟩

/-- StartPulseOnTheLine: the last tick of each part. -/
theorem witness_StartPulseOnTheLine :
    configLegal started0.cfg = true ∧ started0.state = .startLow ∧ started0.phaseCnt = 0 ∧ started0.elapsed = 0
    ∧ started0.lineOe = true ∧ started0.lineO = false
    ∧ (List.replicate 19999 true).length < started0.cfg.startLowUs
    ∧ (started0.cfg.startLowUs ≤ (List.replicate 20000 true).length
      ∧ (List.replicate 20039 true).length < started0.cfg.startLowUs + started0.cfg.startHighUs)
    ∧ (List.replicate 20040 true).length = started0.cfg.startLowUs + started0.cfg.startHighUs := by
  simp only [List.length_replicate]
  decide

/-- HighPulseIsMeasured: the widest pulse that is a bit, ending at the deadline, and the first that is none. -/
theorem witness_HighPulseIsMeasured :
    (receiving .bitWaitLow 299799 false).state = .bitWaitLow ∧ (1 ≤ 200 ∧ 200 ≤ Config.default.pulseCap)
    ∧ (receiving .bitWaitLow 299799 false).elapsed + 200 + 1 ≤ Config.default.deadlineUs
    ∧ Config.default.pulseCap < 201 ∧ 1 ≤ Config.default.pulseCap
    ∧ (receiving .bitWaitLow 299799 false).elapsed + Config.default.pulseCap + 1 ≤ Config.default.deadlineUs := by decide

/-- BitsArePackedMsbFirst. -/
theorem witness_BitsArePackedMsbFirst : (List.replicate 40 true).length = 40 := by decide

/-- FrameOnTheLineIsReceived: the shortest pulses, ending at the deadline. -/
theorem witness_FrameOnTheLineIsReceived :
    let s := receiving .bitWaitLow 299919 false
    let pulses := List.replicate 40 (⟨0, 1⟩ : Pulse)
    s.state = .bitWaitLow ∧ s.bitIdx = 0 ∧ s.buf = Frame.zero ∧ pulses.length = 40
    ∧ (∀ p ∈ pulses, 1 ≤ p.high ∧ p.high ≤ s.cfg.pulseCap)
    ∧ s.elapsed + (pulses.flatMap Pulse.samples).length + 1 = s.cfg.deadlineUs := by decide

/-- TenthsAsNearestBinary32: a zero and a nonzero humidity, and the frame of a temperature's magnitude. -/
theorem witness_TenthsAsNearestBinary32 :
    0 = 256 * (0#8).toNat + (0#8).toNat ∧ 256 * frame16.b0.toNat + frame16.b1.toNat ≠ 0
    ∧ (⟨0#8, 0xED#8, 0#8, 0#8, 0#8⟩ : Frame).b0 = frame16.b2 &&& 0x7F#8
    ∧ (⟨0#8, 0xED#8, 0#8, 0#8, 0#8⟩ : Frame).b1 = frame16.b3 := by decide

/-- HostAddressesReachTheirRegister: the last address of the block and the first beyond it, and two bytes of STATUS. -/
theorem witness_HostAddressesReachTheirRegister :
    regOffset Config.default 255 = some 255#8 ∧ regOffset Config.default 256 = none
    ∧ (4#8 : BusAddr).toNat / 4 = (7#8 : BusAddr).toNat / 4 := by decide

end Sys2Proof.Machine.Slice0
end

/-! ### The legal configurations, and the instructions as total functions -/

section

namespace Sys2Proof.Machine

/-- R10's legal ranges and R11's constraint on the deadline, as inequalities. -/
theorem configLegal_iff {c : Config} :
    configLegal c = true ↔
      1 ≤ c.clkPerTick ∧ 2 ≤ c.syncStages ∧ 20000 ≤ c.startLowUs ∧ 40 ≤ c.startHighUs ∧ c.startHighUs ≤ 50
        ∧ c.startLowUs + c.startHighUs + 1 ≤ c.deadlineUs ∧ 1 ≤ c.pulseCap ∧ c.bitThreshold < c.pulseCap := by
  simp only [configLegal, Bool.and_eq_true, decide_eq_true_eq, and_assoc]

/-- No instruction faults or is refused. -/
theorem exec_eq_next (i : Instr) (s : State) : ∃ t, exec i s = .next t := by
  cases i <;> exact ⟨_, rfl⟩

/-- Without reset, a step is the issued instruction followed by `retire`. -/
theorem step_eq_retire {s : State} (h : configLegal s.cfg = true) (hr : rstNow s = true) :
    ∃ t, exec (fetch s) (takeInputs s) = .next t ∧ step s = .next (retire (hostNow s) t) := by
  obtain ⟨t, ht⟩ := exec_eq_next (fetch s) (takeInputs s)
  exact ⟨t, ht, step_of_exec h hr ht⟩

/-- A block with legal parameters always has a next state. -/
theorem step_eq_next {s : State} (h : configLegal s.cfg = true) : ∃ t, step s = .next t := by
  cases hr : rstNow s with
  | false => exact ⟨_, step_of_reset h hr⟩
  | true =>
    obtain ⟨t, -, hstep⟩ := step_eq_retire h hr
    exact ⟨_, hstep⟩

theorem step_refused_iff {s : State} : step s = .refused .illegalConfig ↔ ¬ configLegal s.cfg = true := by
  constructor
  · intro href h
    obtain ⟨t, ht⟩ := step_eq_next h
    exact nomatch ht.symm.trans href
  · exact fun h => step_of_illegal (Bool.eq_false_of_not_eq_true h)

/-- Settles O8: `step` refuses exactly what `configLegal` rejects. -/
theorem illegalConfigurationIsRefused : Obligations.IllegalConfigurationIsRefused :=
  fun _ => step_refused_iff.trans (not_congr configLegal_iff)

end Sys2Proof.Machine

end

/-! ### The inputs of a cycle, and the step that takes them -/

section

namespace Sys2Proof.Machine

theorem rstNow_eq_true {s : State} (h : s.rstIn.head? ≠ some false) : rstNow s = true := by
  rw [rstNow, List.headD_eq_head?_getD]
  cases hr : s.rstIn.head? with
  | none => rfl
  | some b => cases b with
    | false => exact absurd hr h
    | true => rfl

theorem hostNow_of_cons {s : State} {op : HostOp} {rest : List HostOp} (h : s.hostIn = op :: rest) :
    hostNow s = op := by
  rw [hostNow, h, List.headD_cons]

theorem hostNow_of_nil {s : State} (h : s.hostIn = []) : hostNow s = .nop := by
  rw [hostNow, h, List.headD_nil]

theorem fetch_of_txn {s : State} {w : TxnWord} (h : hostNow s = .txn w) : fetch s = decode (.bus w) := by
  rw [fetch, h]

theorem fetch_of_nop {s : State} (h : hostNow s = .nop) : fetch s = .nop := by
  rw [fetch, h]; rfl

theorem fetch_of_waitDone {s : State} (h : hostNow s = .waitDone) : fetch s = .rdStatus 0#2 0#32 := by
  rw [fetch, h]

theorem takeInputs_of_ne_waitDone {s : State} (h : hostNow s ≠ .waitDone) :
    takeInputs s = { s with rstIn := s.rstIn.tail, hostIn := s.hostIn.tail } := by
  rw [takeInputs, if_neg h]

/-- A WAITDONE stays the host's next statement while its read is in progress (R141). -/
theorem takeInputs_of_waitDone {s : State} (h : hostNow s = .waitDone) :
    takeInputs s = { s with rstIn := s.rstIn.tail } := by
  rw [takeInputs, if_pos h]

theorem retire_of_ne_waitDone {op : HostOp} (h : op ≠ .waitDone) (s : State) : retire op s = s := by
  cases op with
  | txn _ => rfl
  | nop => rfl
  | waitDone => exact absurd rfl h

/-- Only a WAITDONE has anything left to do after its instruction. -/
theorem step_eq_exec {s : State} (h : configLegal s.cfg = true) (hr : rstNow s = true)
    (hw : hostNow s ≠ .waitDone) :
    step s = exec (fetch s) { s with rstIn := s.rstIn.tail, hostIn := s.hostIn.tail } := by
  obtain ⟨t, ht, hstep⟩ := step_eq_retire h hr
  rw [hstep, retire_of_ne_waitDone hw, ← takeInputs_of_ne_waitDone hw, ht]

theorem exec_rdStatus (lane : BitVec 2) (wdata : RegWord) (s : State) :
    exec (.rdStatus lane wdata) s = .next (readCycle (statusView s) s) := rfl

@[simp] theorem readCycle_hostIn (v : RegWord) (s : State) : (readCycle v s).hostIn = s.hostIn := by
  simp only [readCycle, setRdata_hostIn, clockEdge_hostIn]

/-- A WAITDONE reads STATUS, and leaves the host's program with the read that has bit 3 = 1 (R141). -/
theorem step_of_waitDone {s : State} {rest : List HostOp} (h : configLegal s.cfg = true)
    (hr : rstNow s = true) (hs : s.hostIn = .waitDone :: rest) :
    ∃ t, exec (.rdStatus 0#2 0#32) { s with rstIn := s.rstIn.tail } = .next t
      ∧ step s = .next (if t.rdata.getLsbD 3 then { t with hostIn := rest } else t) := by
  have hnow := hostNow_of_cons hs
  obtain ⟨t, ht, hstep⟩ := step_eq_retire h hr
  rw [fetch_of_waitDone hnow, takeInputs_of_waitDone hnow] at ht
  have hrest : t.hostIn.tail = rest := by
    rw [exec_rdStatus] at ht
    cases ht
    rw [readCycle_hostIn, hs, List.tail_cons]
  exact ⟨t, ht, by rw [hstep, hnow, retire, hrest]⟩

/-- Settles O4, by the four shapes of the host's program. -/
theorem stepRunsTheInstructionTheHostIssues : Obligations.StepRunsTheInstructionTheHostIssues := by
  intro s h hrst
  have hr := rstNow_eq_true hrst
  refine ⟨fun w rest hs => ?txn, fun rest hs => ?nop, fun hs => ?ended, fun rest hs => ?waitDone⟩
  case txn =>
    have hnow := hostNow_of_cons hs
    rw [step_eq_exec h hr (by simp [hnow]), fetch_of_txn hnow, hs, List.tail_cons]
  case nop =>
    have hnow := hostNow_of_cons hs
    rw [step_eq_exec h hr (by simp [hnow]), fetch_of_nop hnow, hs, List.tail_cons]
  case ended =>
    have hnow := hostNow_of_nil hs
    rw [step_eq_exec h hr (by simp [hnow]), fetch_of_nop hnow, hs, List.tail_nil, ← hs]
  case waitDone => exact step_of_waitDone h hr hs

end Sys2Proof.Machine

end

/-! ### The counters' ranges and widths -/

section

namespace Sys2Proof.Machine

/-- A counter that never passes `largest` fits the width R12 computes from it. -/
theorem lt_two_pow_counterWidth {n largest : Nat} (h : n ≤ largest) : n < 2 ^ counterWidth largest := by
  rw [counterWidth]
  split
  case isTrue h0 => omega
  case isFalse => exact h.trans_lt Nat.lt_log2_self

/-- Each counter is at most the largest value that R43, R45, R46, R47 and R49 name for it. -/
structure CountersInRange (s : State) : Prop where
  elapsed : s.elapsed ≤ s.cfg.deadlineUs + 1
  phaseCnt : s.phaseCnt ≤ max s.cfg.startLowUs s.cfg.startHighUs - 1
  pulseCnt : s.pulseCnt ≤ s.cfg.pulseCap
  bitIdx : s.bitIdx ≤ Config.nbits
  presc : s.presc ≤ s.cfg.clkPerTick - 1

/-- Before the first data bit, `elapsed` and `phase_cnt` alone can be in question. -/
theorem CountersInRange.of_noBits {s : State} (hpresc : s.presc < s.cfg.clkPerTick) (hbits : noBits s)
    (helapsed : s.elapsed ≤ s.cfg.deadlineUs + 1)
    (hphase : s.phaseCnt ≤ max s.cfg.startLowUs s.cfg.startHighUs - 1) : CountersInRange s := by
  obtain ⟨hidx, hpulse, -⟩ := hbits
  exact ⟨helapsed, hphase, by omega, by omega, by omega⟩

/-- After the start pulse, `pulse_cnt` and `bit_idx` alone can be in question. -/
theorem CountersInRange.of_waiting {s : State} (hpresc : s.presc < s.cfg.clkPerTick) (hwait : waiting s)
    (hpulse : s.pulseCnt ≤ s.cfg.pulseCap) (hidx : s.bitIdx ≤ Config.nbits) : CountersInRange s := by
  obtain ⟨hphase, -, helapsed⟩ := hwait
  exact ⟨by omega, by omega, hpulse, hidx, by omega⟩

/-- In the handshake states no bit has been received and the deadline has not passed. -/
theorem CountersInRange.of_noBits_waiting {s : State} (hpresc : s.presc < s.cfg.clkPerTick)
    (hbits : noBits s) (hwait : waiting s) : CountersInRange s := by
  obtain ⟨hidx, hpulse, -⟩ := hbits
  exact .of_waiting hpresc hwait (by omega) (by omega)

/-- R11 puts the whole start pulse before the deadline, so `elapsed` is in range there too. -/
theorem StateInv.countersInRange {s : State} (h : StateInv s) : CountersInRange s := by
  obtain ⟨-, -, -, -, -, hdeadline, -, -⟩ := configLegal_iff.mp h.legal
  have hpresc := h.prescaler
  have hphase := h.phase
  cases hs : s.state <;> simp only [phaseInv, hs] at hphase
  case idle =>
    obtain ⟨-, hbits, hcnt, helapsed⟩ := hphase
    exact .of_noBits hpresc hbits (by omega) (by omega)
  case startLow | startHigh =>
    obtain ⟨-, hbits, helapsed, hcnt⟩ := hphase
    exact .of_noBits hpresc hbits (by omega) (by omega)
  case awaitReleaseHigh | awaitAckLow | awaitAckHigh =>
    obtain ⟨-, hbits, hwait⟩ := hphase
    exact .of_noBits_waiting hpresc hbits hwait
  case bitWaitLow =>
    obtain ⟨-, hwait, hidx, hpulse⟩ := hphase
    exact .of_waiting hpresc hwait hpulse hidx.le
  case bitMeasureHigh | checksumCheck =>
    obtain ⟨-, hwait, hidx, -, hpulse⟩ := hphase
    exact .of_waiting hpresc hwait hpulse hidx.le
  case success | chkerr =>
    obtain ⟨-, -, -, -, hwait, hidx, hpulse⟩ := hphase
    exact .of_waiting hpresc hwait hpulse hidx.le
  case timeout =>
    obtain ⟨-, -, -, -, hcnt, helapsed, hidx, hpulse⟩ := hphase
    exact ⟨helapsed, by omega, hpulse, hidx, by omega⟩

/-- Settles O37: every counter of a sound state is in its range, and a range fits its width. -/
theorem countersFitTheirWidths : Obligations.CountersFitTheirWidths := by
  refine ⟨fun s h => ?_, by decide, by decide, by decide, by decide⟩
  obtain ⟨helapsed, hphase, hpulse, hidx, hpresc⟩ := h.countersInRange
  exact ⟨lt_two_pow_counterWidth helapsed, lt_two_pow_counterWidth hphase, lt_two_pow_counterWidth hpulse,
    lt_two_pow_counterWidth hidx, lt_two_pow_counterWidth hpresc⟩

end Sys2Proof.Machine

end

/-! ### The row of the state register, and the cycle with no transaction -/

section

namespace Sys2Proof.Machine

theorem isTick_eq_true_iff {s : State} : isTick s = true ↔ s.presc + 1 = s.cfg.clkPerTick := decide_eq_true_iff

theorem isTick_eq_false_iff {s : State} : isTick s = false ↔ s.presc + 1 ≠ s.cfg.clkPerTick :=
  decide_eq_false_iff_not

theorem prescNext_of_tick {s : State} (h : isTick s = true) : prescNext s = 0 := if_pos h

theorem prescNext_of_no_tick {s : State} (h : isTick s = false) : prescNext s = s.presc + 1 :=
  if_neg (Bool.eq_false_iff.mp h)

/-- Nothing in a clock edge but its tick writes the FSM state (R40). -/
theorem clockEdge_state_of_no_tick {s : State} (h : isTick s = false) : (clockEdge s).state = s.state := by
  rw [clockEdge_of_no_tick h, finishEdge_state]

theorem exec_nop (s : State) : exec .nop s = .next (clockEdge s) := rfl

/-- The row of the state register is R61's `TickStep` with the sample of the last synchroniser stage. -/
theorem exec_instrOfState (s : State) : exec (instrOfState s.state) s = .next (tickStep s (lin s)) := by
  cases hs : s.state <;> simp only [tickStep, hs] <;> rfl

theorem exec_row_of_code (s : State) : exec (decode (.fsm s.state.code)) s = .next (tickStep s (lin s)) := by
  rw [decode, decodeFsm_code, exec_instrOfState]

/-- Settles O5: `clockEdge` runs `tickStep` in a tick alone, and `finishEdge` writes the rest. -/
theorem tickRunsTheRowOfTheStateRegister : Obligations.TickRunsTheRowOfTheStateRegister := by
  refine fun s => ⟨fun h => ⟨tickStep s (lin s), exec_row_of_code s, ?tick⟩, fun h => ?noTick⟩
  case tick =>
    have ht := isTick_eq_true_iff.mpr h
    rw [exec_nop, clockEdge_of_tick ht, finishEdge, prescNext_of_tick ht]; rfl
  case noTick =>
    have ht := isTick_eq_false_iff.mpr h
    rw [exec_nop, clockEdge_of_no_tick ht, finishEdge, prescNext_of_no_tick ht]; rfl

theorem instrOfState_of_not_busy {q : FsmState} (h : busyState q = false) :
    instrOfState q = .idle ∨ instrOfState q = .success ∨ instrOfState q = .timeout ∨ instrOfState q = .chkerr
      ∨ ∃ low, instrOfState q = .rsvdState low := by
  cases q
  case idle => exact .inl rfl
  case success => exact .inr (.inl rfl)
  case timeout => exact .inr (.inr (.inl rfl))
  case chkerr => exact .inr (.inr (.inr (.inl rfl)))
  case rsvd low => exact .inr (.inr (.inr (.inr ⟨low, rfl⟩)))
  all_goals exact absurd h (by decide)

/-- Settles O20: the row of a state that is not busy is a resting one, and `tickStep` leaves such a state unchanged. -/
theorem restingStatesAreUnchangedByATick : Obligations.RestingStatesAreUnchangedByATick := by
  intro s h
  refine ⟨instrOfState s.state, decodeFsm_code s.state, ?_, instrOfState_of_not_busy h⟩
  rw [exec_instrOfState, tickStep_of_not_busy h]

end Sys2Proof.Machine

end

/-! ### What a write can do, and R60's cycle of each kind of transaction -/

section

namespace Sys2Proof.Machine

theorem ctrlStartEffect_of_busy {s : State} (hb : busy s = true) (v : RegWord) (s1 : State) :
    ctrlStartEffect v s s1 = setIe (ieOperand v) s1 := if_pos hb

theorem ctrlStartEffect_of_not_busy {s : State} (hb : busy s = false) (v : RegWord) (s1 : State) :
    ctrlStartEffect v s s1 = startAccept (setIe (ieOperand v) s1) := if_neg (Bool.eq_false_iff.mp hb)

theorem statusEffect_of_clear {v : RegWord} {s s1 : State} (hd : doneClrOperand v = true)
    (hb : busy s = true → busy s1 = true) : statusEffect v s s1 = clearDone s1 :=
  if_pos (by simpa [hd, or_iff_not_imp_left] using hb)

/-- Without `WDATA[3]`, or in the cycle that ends an exchange, a write of STATUS has no effect (R155). -/
theorem statusEffect_of_keep {v : RegWord} {s s1 : State}
    (h : doneClrOperand v = true → busy s = true ∧ busy s1 = false) : statusEffect v s s1 = s1 :=
  if_neg (by simpa using h)

/-- R151 to R155: a write accepts a START, or writes IE alone, or clears DONE alone, or has no effect. -/
theorem writeEffect_cases (s s1 : State) (a : BusAddr) (v : RegWord) :
    (addrSlot a).toNat = 0 ∧ startOperand v = true ∧ busy s = false
      ∧ writeEffect s s1 a v = startAccept (setIe (ieOperand v) s1)
    ∨ (addrSlot a).toNat = 0 ∧ (startOperand v = true → busy s = true)
      ∧ writeEffect s s1 a v = setIe (ieOperand v) s1
    ∨ (addrSlot a).toNat = 1 ∧ doneClrOperand v = true ∧ (busy s = true → busy s1 = true)
      ∧ writeEffect s s1 a v = clearDone s1
    ∨ (addrSlot a).toNat ≠ 0
      ∧ ((addrSlot a).toNat = 1 → doneClrOperand v = true → busy s = true ∧ busy s1 = false)
      ∧ writeEffect s s1 a v = s1 := by
  unfold writeEffect
  split
  case h_1 hctrl =>
    by_cases hst : startOperand v = true
    · rw [if_pos hst]
      cases hb : busy s with
      | false => exact .inl ⟨hctrl, hst, rfl, ctrlStartEffect_of_not_busy hb v s1⟩
      | true => exact .inr (.inl ⟨hctrl, fun _ => rfl, ctrlStartEffect_of_busy hb v s1⟩)
    · rw [if_neg hst]
      exact .inr (.inl ⟨hctrl, fun h => absurd h hst, rfl⟩)
  case h_2 hstatus =>
    by_cases hclr : doneClrOperand v = true ∧ (busy s = true → busy s1 = true)
    · obtain ⟨hd, hb⟩ := hclr
      exact .inr (.inr (.inl ⟨hstatus, hd, hb, statusEffect_of_clear hd hb⟩))
    · have hkeep : doneClrOperand v = true → busy s = true ∧ busy s1 = false := by simpa using hclr
      exact .inr (.inr (.inr ⟨by omega, fun _ => hkeep, statusEffect_of_keep hkeep⟩))
  case h_3 hctrl hstatus => exact .inr (.inr (.inr ⟨hctrl, fun h => absurd h hstatus, rfl⟩))

@[simp] theorem writeEffect_rdata (s s1 : State) (a : BusAddr) (v : RegWord) :
    (writeEffect s s1 a v).rdata = s1.rdata := by
  rcases writeEffect_cases s s1 a v with ⟨_, _, _, h⟩ | ⟨_, _, h⟩ | ⟨_, _, _, h⟩ | ⟨_, _, h⟩ <;>
    simp only [h, startAccept_rdata, setIe_rdata, clearDone_rdata]

theorem setRdata_rdata_self (s : State) : setRdata s.rdata s = s := rfl

theorem cycle_none (s : State) : cycle s none = clockEdge s := rfl

theorem cycle_of_read {w : TxnWord} (hw : txnWrite w = false) (s : State) :
    cycle s (some w) = readCycle (regRead s (txnAddr w)) s := by
  simp only [cycle, hw, Bool.false_eq_true, if_false]; rfl

/-- A write cycle answers 0 on `bus_rdata`, which the edge has put there and no write effect changes. -/
theorem cycle_of_write {w : TxnWord} (hw : txnWrite w = true) (s : State) :
    cycle s (some w) = writeEffect s (clockEdge s) (txnAddr w) (txnData w) := by
  have hr : (writeEffect s (clockEdge s) (txnAddr w) (txnData w)).rdata = 0#32 := by
    rw [writeEffect_rdata, clockEdge_rdata]
  calc cycle s (some w) = setRdata 0#32 (writeEffect s (clockEdge s) (txnAddr w) (txnData w)) := by
        simp only [cycle, hw, if_true]; rfl
    _ = writeEffect s (clockEdge s) (txnAddr w) (txnData w) := by rw [← hr, setRdata_rdata_self]

/-- Every read is the cycle with R85's `RegRead`, the reserved slots among them. -/
theorem exec_decodeRead (a : BusAddr) (lane : BitVec 2) (d : RegWord) (s : State) :
    exec (decodeRead (addrSlot a) lane d) s = .next (readCycle (regRead s a) s) := by
  simp only [decodeRead, regRead]
  generalize (addrSlot a).toNat = n
  rcases n with _ | _ | _ | _ | _ | _ | _ | n <;> rfl

/-- Every write is the cycle with R151's `WriteEffect`. -/
theorem exec_decodeWrite (a : BusAddr) (lane : BitVec 2) (d : RegWord) (s : State) :
    exec (decodeWrite (addrSlot a) lane d) s = .next (writeEffect s (clockEdge s) a d) := by
  simp only [decodeWrite, writeEffect]
  generalize (addrSlot a).toNat = n
  rcases n with _ | _ | _ | _ | _ | _ | _ | n
  case zero =>
    by_cases hst : startOperand d = true
    · rw [if_pos hst]; exact congrArg (exec · s) (if_pos hst)
    · rw [if_neg hst]; exact congrArg (exec · s) (if_neg hst)
  all_goals rfl

theorem exec_decode_bus (w : TxnWord) (s : State) : exec (decode (.bus w)) s = .next (cycle s (some w)) := by
  cases hw : txnWrite w with
  | false => rw [decode, decodeBus, hw, cycle_of_read hw]; exact exec_decodeRead ..
  | true => rw [decode, decodeBus, hw, cycle_of_write hw]; exact exec_decodeWrite ..

/-- Settles O6, by the transaction's direction and register. -/
theorem transactionsAreCyclesOfTheSpec : Obligations.TransactionsAreCyclesOfTheSpec :=
  fun s => ⟨fun w => exec_decode_bus w s, exec_nop s⟩

end Sys2Proof.Machine

end

/-! ### A step as R60's cycle, and what changes the FSM state -/

section

namespace Sys2Proof.Machine

/-- The transaction word of the coming cycle: the host's own, none, or WAITDONE's `RD STATUS` (R140, R141). -/
def issuedTxn (s : State) : Option TxnWord :=
  match hostNow s with
  | .txn w => some w
  | .nop => none
  | .waitDone => some (txnWord false 1#6 0#2 0#32)

theorem decode_readStatus : decode (.bus (txnWord false 1#6 0#2 0#32)) = .rdStatus 0#2 0#32 := rfl

/-- The instruction fetched is the one the issued word decodes to. -/
theorem fetch_eq_decode (s : State) : fetch s = decode ((issuedTxn s).elim .noTxn .bus) := by
  cases h : hostNow s with
  | txn w => simp only [fetch_of_txn h, issuedTxn, h, Option.elim_some]
  | nop => exact (fetch_of_nop h).trans (by simp only [issuedTxn, h, Option.elim_none, decode])
  | waitDone => simp only [fetch_of_waitDone h, issuedTxn, h, Option.elim_some, decode_readStatus]

theorem exec_fetch (s u : State) : exec (fetch s) u = .next (cycle u (issuedTxn s)) := by
  rw [fetch_eq_decode]
  cases issuedTxn s with
  | none => exact exec_nop u
  | some w => exact exec_decode_bus w u

/-- Every step is a reset cycle, or R60's cycle with the issued transaction. -/
theorem step_cases {s t : State} (h : step s = .next t) :
    configLegal s.cfg = true ∧
      (rstNow s = false ∧ t = resetCycle s
      ∨ rstNow s = true ∧ t = retire (hostNow s) (cycle (takeInputs s) (issuedTxn s))) := by
  cases hc : configLegal s.cfg with
  | false => exact nomatch (step_of_illegal hc).symm.trans h
  | true =>
    cases hr : rstNow s with
    | false =>
      rw [step_of_reset hc hr] at h
      cases h
      exact ⟨rfl, .inl ⟨rfl, rfl⟩⟩
    | true =>
      rw [step_of_exec hc hr (exec_fetch ..)] at h
      cases h
      exact ⟨rfl, .inr ⟨rfl, rfl⟩⟩

@[simp] theorem retire_state (op : HostOp) (s : State) : (retire op s).state = s.state := by
  cases op with
  | txn _ => rfl
  | nop => rfl
  | waitDone => rw [retire]; split <;> rfl

theorem head?_rstIn_of_rstNow {s : State} (h : rstNow s = false) : s.rstIn.head? = some false := by
  by_contra hne
  exact nomatch h.symm.trans (rstNow_eq_true hne)

/-- A write of CTRL with `WDATA[0] = 1` is WR_CTRL_START (R111). -/
theorem decode_of_start {w : TxnWord} (hw : txnWrite w = true) (hslot : (addrSlot (txnAddr w)).toNat = 0)
    (hst : startOperand (txnData w) = true) :
    decode (.bus w) = .wrCtrlStart (addrLane (txnAddr w)) (txnData w) := by
  rw [startOperand] at hst
  simp only [decode, decodeBus, decodeWrite, hw, hslot, hst, if_true]

/-- A transaction changes the FSM state that the edge leaves only as an accepted START (R152, R154). -/
theorem cycle_state_cases (s : State) (w : TxnWord) :
    (cycle s (some w)).state = (clockEdge s).state
    ∨ busy s = false ∧ decode (.bus w) = .wrCtrlStart (addrLane (txnAddr w)) (txnData w) := by
  cases hw : txnWrite w with
  | false => exact .inl (by rw [cycle_of_read hw, readCycle, setRdata_state])
  | true =>
    rw [cycle_of_write hw]
    rcases writeEffect_cases s (clockEdge s) (txnAddr w) (txnData w) with
      ⟨hslot, hst, hb, _⟩ | ⟨_, _, h⟩ | ⟨_, _, _, h⟩ | ⟨_, _, h⟩
    · exact .inr ⟨hb, decode_of_start hw hslot hst⟩
    · exact .inl (by rw [h, setIe_state])
    · exact .inl (by rw [h, clearDone_state])
    · exact .inl (by rw [h])

/-- Settles O32: in a cycle that is no tick and no reset, the transaction alone can change the FSM state. -/
theorem stateRegisterChangesOnlyByTickStartOrReset : Obligations.StateRegisterChangesOnlyByTickStartOrReset := by
  intro s t hstep hne
  obtain ⟨-, ⟨hr, -⟩ | ⟨-, rfl⟩⟩ := step_cases hstep
  case inl => exact .inr (.inr (head?_rstIn_of_rstNow hr))
  refine or_iff_not_imp_left.mpr fun htick => .inl ?_
  have hedge : (clockEdge (takeInputs s)).state = s.state :=
    clockEdge_state_of_no_tick (isTick_eq_false_iff.mpr htick)
  rw [retire_state] at hne
  rw [fetch_eq_decode]
  cases htxn : issuedTxn s with
  | none => rw [htxn, cycle_none] at hne; exact absurd hedge hne
  | some w =>
    rw [htxn] at hne
    rcases cycle_state_cases (takeInputs s) w with hkept | ⟨hb, hdec⟩
    · exact absurd (hkept.trans hedge) hne
    · exact ⟨hb, _, _, hdec⟩

end Sys2Proof.Machine

end

/-! ### The reset values -/

section

namespace Sys2Proof.Machine

/-- Settles O9: `resetWith` is R63's table, and the synchroniser has one free bit for each stage. -/
theorem resetValues : Obligations.ResetValues := fun c n =>
  ⟨State.resetWith c n, rfl, rfl, rfl, rfl, rfl, rfl, rfl, rfl, rfl, rfl, freeSyncBits_length c.syncStages n,
    rfl, rfl, rfl, rfl, rfl, rfl, rfl⟩

/-- Reset clears everything IDLE requires (R63, R391). -/
theorem phaseInv_resetWith (c : Config) (n : Nat) : phaseInv (State.resetWith c n) :=
  ⟨⟨rfl, rfl, rfl, rfl⟩, ⟨rfl, rfl, rfl⟩, rfl, rfl⟩

theorem stateInv_resetWith {c : Config} (hc : configLegal c = true) (n : Nat) : StateInv (State.resetWith c n) where
  legal := hc
  syncLength := freeSyncBits_length c.syncStages n
  prescaler := (configLegal_iff.mp hc).1
  lineDriven := by simp [State.resetWith]
  lineLow := by simp [State.resetWith]
  phase := phaseInv_resetWith c n

/-- Settles O11: `State.reset` is the reset of the default parameters, which are legal. -/
theorem invariantAfterReset : Obligations.InvariantAfterReset :=
  ⟨fun _ n hc => stateInv_resetWith hc n, stateInv_resetWith (by decide) 0⟩

end Sys2Proof.Machine

end

/-! ### The host address space, and the word a byte address selects -/

section

namespace Sys2Proof.Machine

/-- Settles O7: a transaction's next state is R60's cycle, and only an illegal configuration is refused. -/
theorem everyTransactionCompletes : Obligations.EveryTransactionCompletes :=
  ⟨fun w s => ⟨cycle s (some w), exec_decode_bus w s⟩, fun _ => step_eq_next⟩

theorem regOffset_eq_some_iff {c : Config} {a : Nat} {r : BusAddr} :
    regOffset c a = some r ↔
      (c.dhtdecBase ≤ a ∧ a < c.dhtdecBase + 256) ∧ BitVec.ofNat 8 (a - c.dhtdecBase) = r := by
  rw [regOffset, Option.ite_none_right_eq_some, Option.some_inj]

theorem regOffset_toNat {c : Config} {a : Nat} {r : BusAddr} (h : regOffset c a = some r) :
    r.toNat = a - c.dhtdecBase := by
  obtain ⟨⟨hbase, hend⟩, rfl⟩ := regOffset_eq_some_iff.mp h
  rw [BitVec.toNat_ofNat, Nat.mod_eq_of_lt (by omega)]

/-- The slot is the number of the word that holds the byte (R83). -/
theorem addrSlot_toNat (a : BusAddr) : (addrSlot a).toNat = a.toNat / 4 := by
  have hword : a.toNat / 4 < 64 := by omega
  rw [addrSlot, BitVec.extractLsb'_toNat, Nat.shiftRight_eq_div_pow]
  exact Nat.mod_eq_of_lt hword

theorem addrSlot_eq_iff {a b : BusAddr} : addrSlot a = addrSlot b ↔ a.toNat / 4 = b.toNat / 4 := by
  rw [← BitVec.toNat_inj, addrSlot_toNat, addrSlot_toNat]

/-- A read selects its register by the slot alone (R83, R85). -/
theorem regRead_congr {a b : BusAddr} (h : addrSlot a = addrSlot b) (s : State) : regRead s a = regRead s b := by
  rw [regRead, regRead, h]

/-- A write selects its register by the slot alone (R83, R86). -/
theorem writeEffect_congr {a b : BusAddr} (h : addrSlot a = addrSlot b) (s s1 : State) (v : RegWord) :
    writeEffect s s1 a v = writeEffect s s1 b v := by
  rw [writeEffect, writeEffect, h]

/-- Settles O43: R82's window by the branches of `regOffset`, and R83 because reads and writes look at the slot alone. -/
theorem hostAddressesReachTheirRegister : Obligations.HostAddressesReachTheirRegister := by
  refine ⟨fun c a => ?window, fun c a r => regOffset_toNat, fun s s1 a b v hword => ?sameWord⟩
  case window => simp only [regOffset_eq_some_iff, exists_and_left, exists_eq', and_true]
  case sameWord =>
    have hslot := addrSlot_eq_iff.mpr hword
    exact ⟨regRead_congr hslot s, writeEffect_congr hslot s s1 v⟩

end Sys2Proof.Machine

end

/-! ### The encoder and the decoder are inverse to each other -/

section

namespace Sys2Proof

/-- `WDATA[0]` chooses between CTRL's two rows (R111). -/
theorem decodeWrite_ctrl (lane : BitVec 2) (d : RegWord) :
    decodeWrite 0#6 lane d = if d.getLsbD 0 then .wrCtrlStart lane d else .wrCtrlNostart lane d := rfl

theorem decodeRead_of_reserved {slot : BitVec 6} (h : 7 ≤ slot.toNat) (lane : BitVec 2) (d : RegWord) :
    decodeRead slot lane d = .rdRsvd slot lane d := by
  unfold decodeRead
  split
  case h_8 => rfl
  all_goals omega

theorem decodeWrite_of_reserved {slot : BitVec 6} (h : 7 ≤ slot.toNat) (lane : BitVec 2) (d : RegWord) :
    decodeWrite slot lane d = .wrRsvd slot lane d := by
  unfold decodeWrite
  split
  case h_8 => rfl
  all_goals omega

/-- Decoding the word of an instruction that a word stands for gives the instruction back (R110, R111, R115). -/
theorem decode_encode {i : Instr} (h : wellFormed i = true) : decode (encode i) = i := by
  cases i
  case rdCtrl | rdStatus | rdRaw0 | rdRaw1 | rdHum | rdTemp | rdTemps
    | wrStatus | wrRaw0 | wrRaw1 | wrHum | wrTemp | wrTemps => exact decodeBus_txnWord ..
  case wrCtrlStart lane d => exact (decodeBus_txnWord ..).trans (if_pos h)
  case wrCtrlNostart lane d =>
    have hd : ¬ d.getLsbD 0 = true := by simpa [wellFormed] using h
    exact (decodeBus_txnWord ..).trans (if_neg hd)
  case rdRsvd slot lane d =>
    exact (decodeBus_txnWord ..).trans (decodeRead_of_reserved (of_decide_eq_true h) lane d)
  case wrRsvd slot lane d =>
    exact (decodeBus_txnWord ..).trans (decodeWrite_of_reserved (of_decide_eq_true h) lane d)
  case rsvdState low => exact decodeFsm_code (.rsvd low)
  all_goals rfl

/-- Settles O2: `decode_encode`, by the instruction. -/
theorem decodeOfEncodeIsTheInstruction : Obligations.DecodeOfEncodeIsTheInstruction :=
  fun _ => decode_encode

/-- A slot is one of the seven registers' or a reserved one (R81, R111). -/
theorem slot_cases (slot : BitVec 6) :
    slot = 0#6 ∨ slot = 1#6 ∨ slot = 2#6 ∨ slot = 3#6 ∨ slot = 4#6 ∨ slot = 5#6 ∨ slot = 6#6
      ∨ 7 ≤ slot.toNat := by
  revert slot; decide

/-- The read of a slot is a row of the table, and its word is the slot's. -/
theorem decodeRead_sound (slot : BitVec 6) (lane : BitVec 2) (d : RegWord) :
    wellFormed (decodeRead slot lane d) = true
      ∧ encode (decodeRead slot lane d) = .bus (txnWord false slot lane d) := by
  rcases slot_cases slot with rfl | rfl | rfl | rfl | rfl | rfl | rfl | hslot
  case inr.inr.inr.inr.inr.inr.inr =>
    rw [decodeRead_of_reserved hslot]
    exact ⟨decide_eq_true hslot, rfl⟩
  all_goals exact ⟨rfl, rfl⟩

/-- A write of CTRL with `WDATA[0]` set, and one without, are rows of the table whose word is CTRL's. -/
theorem decodeWrite_ctrl_sound (lane : BitVec 2) (d : RegWord) :
    wellFormed (decodeWrite 0#6 lane d) = true
      ∧ encode (decodeWrite 0#6 lane d) = .bus (txnWord true 0#6 lane d) := by
  by_cases hd : d.getLsbD 0 = true
  case pos =>
    rw [decodeWrite_ctrl, if_pos hd]
    exact ⟨hd, rfl⟩
  case neg =>
    rw [decodeWrite_ctrl, if_neg hd]
    exact ⟨by simpa [wellFormed] using hd, rfl⟩

/-- The write of a slot is a row of the table, and its word is the slot's. -/
theorem decodeWrite_sound (slot : BitVec 6) (lane : BitVec 2) (d : RegWord) :
    wellFormed (decodeWrite slot lane d) = true
      ∧ encode (decodeWrite slot lane d) = .bus (txnWord true slot lane d) := by
  rcases slot_cases slot with rfl | rfl | rfl | rfl | rfl | rfl | rfl | hslot
  case inl => exact decodeWrite_ctrl_sound lane d
  case inr.inr.inr.inr.inr.inr.inr =>
    rw [decodeWrite_of_reserved hslot]
    exact ⟨decide_eq_true hslot, rfl⟩
  all_goals exact ⟨rfl, rfl⟩

/-- A state code is one row of the table, and that row's word is the code (R115, R116). -/
theorem instrOfState_sound (q : FsmState) :
    wellFormed (instrOfState q) = true ∧ encode (instrOfState q) = .fsm q.code := by
  cases q <;> exact ⟨rfl, rfl⟩

/-- Every word decodes to a row of the table whose word it is. -/
theorem decode_sound (w : Word) : wellFormed (decode w) = true ∧ encode (decode w) = w := by
  cases w with
  | bus t =>
    rw [← txnWord_fields t, decode, decodeBus_txnWord]
    cases txnWrite t with
    | false => exact decodeRead_sound ..
    | true => exact decodeWrite_sound ..
  | noTxn => exact ⟨rfl, rfl⟩
  | fsm c =>
    have hrow := instrOfState_sound (stateOfCode c)
    rwa [code_stateOfCode] at hrow

/-- Settles O3: existence is `decode_sound`, and uniqueness follows from `decode_encode`. -/
theorem everyWordIsExactlyOneInstruction : Obligations.EveryWordIsExactlyOneInstruction := by
  intro w
  obtain ⟨hwf, henc⟩ := decode_sound w
  refine ⟨hwf, henc, fun i hi hw => ?_⟩
  rw [← hw, decode_encode hi]

/-- Settles O1, by evaluating the decoder on each of the written words. -/
theorem writtenWordsDecodeToTheirInstructions : Obligations.WrittenWordsDecodeToTheirInstructions := by
  unfold Obligations.WrittenWordsDecodeToTheirInstructions
  decide

end Sys2Proof

end

/-! ### A tick of the bit loop and of CHECKSUM_CHECK before the deadline -/

section

namespace Sys2Proof.Machine

theorem countTick_of_lt {s : State} (h : s.elapsed < s.cfg.deadlineUs) :
    countTick s = { s with elapsed := s.elapsed + 1 } := by
  rw [countTick, elapsedNext_of_lt h]

theorem not_deadlinePassed_of_lt {s : State} (h : s.elapsed < s.cfg.deadlineUs) :
    ¬ deadlinePassed (countTick s) = true := by
  rw [deadlinePassed_countTick, decide_eq_true_iff]
  omega

/-- A low sample is waited out (R262). -/
theorem tickStep_bitWaitLow_low {s : State} (hs : s.state = .bitWaitLow) (h : s.elapsed < s.cfg.deadlineUs) :
    tickStep s false = { s with elapsed := s.elapsed + 1 } := by
  rw [← countTick_of_lt h]
  simp only [tickStep, hs]
  exact if_neg (not_deadlinePassed_of_lt h)

/-- The first high sample is counted (R262). -/
theorem tickStep_bitWaitLow_high {s : State} (hs : s.state = .bitWaitLow) (h : s.elapsed < s.cfg.deadlineUs) :
    tickStep s true = { s with elapsed := s.elapsed + 1, pulseCnt := 1, state := .bitMeasureHigh } := by
  calc tickStep s true = { countTick s with pulseCnt := 1, state := .bitMeasureHigh } := by
        simp only [tickStep, hs]
        exact if_neg (not_deadlinePassed_of_lt h)
    _ = _ := by rw [countTick_of_lt h]

/-- A further high sample within the cap is counted (R263). -/
theorem tickStep_bitMeasureHigh_high {s : State} (hs : s.state = .bitMeasureHigh)
    (h : s.elapsed < s.cfg.deadlineUs) (hcap : s.pulseCnt < s.cfg.pulseCap) :
    tickStep s true = { s with elapsed := s.elapsed + 1, pulseCnt := s.pulseCnt + 1 } := by
  calc tickStep s true = { countTick s with pulseCnt := s.pulseCnt + 1 } := by
        simp only [tickStep, hs]
        exact (if_neg (not_deadlinePassed_of_lt h)).trans (if_neg (Nat.not_lt.mpr hcap))
    _ = _ := by rw [countTick_of_lt h]

/-- The FSM state that waits for bit `i`: CHECKSUM_CHECK when the frame is complete (R263). -/
def stateForBit (i : Nat) : FsmState := if i = Config.nbits then .checksumCheck else .bitWaitLow

/-- The low sample that ends a pulse stores its bit (R263). -/
theorem tickStep_bitMeasureHigh_low {s : State} (hs : s.state = .bitMeasureHigh)
    (h : s.elapsed < s.cfg.deadlineUs) :
    tickStep s false = { s with
      elapsed := s.elapsed + 1, bitIdx := s.bitIdx + 1,
      buf := assemble s.buf s.bitIdx (classify s.cfg s.pulseCnt), state := stateForBit (s.bitIdx + 1) } := by
  have hlast : stateForBit (s.bitIdx + 1) = if s.bitIdx = Config.nbits - 1 then .checksumCheck else .bitWaitLow :=
    if_congr (by simp only [Config.nbits]; omega) rfl rfl
  calc tickStep s false = { countTick s with
          bitIdx := s.bitIdx + 1, buf := assemble s.buf s.bitIdx (classify s.cfg s.pulseCnt),
          state := stateForBit (s.bitIdx + 1) } := by
        simp only [tickStep, hs, hlast]
        exact if_neg (not_deadlinePassed_of_lt h)
    _ = _ := by rw [countTick_of_lt h]

/-- A frame is validated by its checksum (R310). -/
theorem tickStep_checksumCheck {s : State} (hs : s.state = .checksumCheck)
    (h : s.elapsed < s.cfg.deadlineUs) (l : Bool) :
    tickStep s l =
      if checksumOk s.buf then enterSuccess (countTick s) else raiseChecksumError (countTick s) := by
  simp only [tickStep, hs]
  exact if_neg (not_deadlinePassed_of_lt h)

theorem checksumOk_iff {f : Frame} :
    checksumOk f = true ↔ f.b4.toNat = (f.b0.toNat + f.b1.toNat + f.b2.toNat + f.b3.toNat) % 256 := by
  rw [checksumOk, beq_iff_eq]

end Sys2Proof.Machine

end

/-! ### A pulse on the line -/

section

namespace Sys2Proof.Machine

theorem runTicks_nil (s : State) : runTicks [] s = s := rfl

theorem runTicks_cons (l : Bool) (ls : List Bool) (s : State) :
    runTicks (l :: ls) s = runTicks ls (tickStep s l) := rfl

theorem runTicks_append (xs ys : List Bool) (s : State) : runTicks (xs ++ ys) s = runTicks ys (runTicks xs s) :=
  List.foldl_append

/-- A low period of any length is waited out (R262). -/
theorem runTicks_low {s : State} (n : Nat) (hs : s.state = .bitWaitLow) (h : s.elapsed + n ≤ s.cfg.deadlineUs) :
    runTicks (List.replicate n false) s = { s with elapsed := s.elapsed + n } := by
  induction n generalizing s with
  | zero => rfl
  | succ n ih =>
    rw [List.replicate_succ, runTicks_cons, tickStep_bitWaitLow_low hs (by omega),
      ih (by exact hs) (by simp only; omega)]
    simp only [Nat.add_assoc, Nat.add_comm 1 n]

/-- Further high samples up to the cap are counted (R263). -/
theorem runTicks_high {s : State} (n : Nat) (hs : s.state = .bitMeasureHigh)
    (h : s.elapsed + n ≤ s.cfg.deadlineUs) (hcap : s.pulseCnt + n ≤ s.cfg.pulseCap) :
    runTicks (List.replicate n true) s = { s with elapsed := s.elapsed + n, pulseCnt := s.pulseCnt + n } := by
  induction n generalizing s with
  | zero => rfl
  | succ n ih =>
    rw [List.replicate_succ, runTicks_cons, tickStep_bitMeasureHigh_high hs (by omega) (by omega),
      ih (by exact hs) (by simp only; omega) (by simp only; omega)]
    simp only [Nat.add_assoc, Nat.add_comm 1 n]

/-- A high pulse within the cap, and the low sample that ends it, store one bit (R263, R264). -/
theorem runTicks_highPulse {s : State} {n : Nat} (hs : s.state = .bitWaitLow) (hn : 1 ≤ n)
    (hcap : n ≤ s.cfg.pulseCap) (h : s.elapsed + n + 1 ≤ s.cfg.deadlineUs) :
    runTicks (List.replicate n true ++ [false]) s = { s with
      elapsed := s.elapsed + n + 1, pulseCnt := n, bitIdx := s.bitIdx + 1,
      buf := assemble s.buf s.bitIdx (classify s.cfg n), state := stateForBit (s.bitIdx + 1) } := by
  obtain ⟨n, rfl⟩ : ∃ m, n = m + 1 := ⟨n - 1, by omega⟩
  rw [List.replicate_succ, List.cons_append, runTicks_cons, runTicks_append, tickStep_bitWaitLow_high hs (by omega),
    runTicks_high n rfl (by simp only; omega) (by simp only; omega), runTicks_cons, runTicks_nil,
    tickStep_bitMeasureHigh_low rfl (by simp only; omega)]
  simp only [Nat.add_assoc, Nat.add_comm 1 n]

theorem Pulse.length_samples (p : Pulse) : p.samples.length = p.lowExtra + p.high + 1 := by
  simp only [Pulse.samples, List.length_append, List.length_replicate, List.length_cons, List.length_nil]

/-- What a data bit on the wire leaves: the bit that its high width classifies as is stored (R118, R261, R263). -/
def afterPulse (s : State) (p : Pulse) : State :=
  { s with
    elapsed := s.elapsed + p.samples.length, pulseCnt := p.high, bitIdx := s.bitIdx + 1,
    buf := assemble s.buf s.bitIdx (classify s.cfg p.high), state := stateForBit (s.bitIdx + 1) }

theorem runTicks_pulse {s : State} {p : Pulse} (hs : s.state = .bitWaitLow) (hhigh : 1 ≤ p.high)
    (hcap : p.high ≤ s.cfg.pulseCap) (h : s.elapsed + p.samples.length ≤ s.cfg.deadlineUs) :
    runTicks p.samples s = afterPulse s p := by
  rw [Pulse.length_samples] at h
  rw [afterPulse, Pulse.length_samples, Pulse.samples, List.append_assoc, runTicks_append,
    runTicks_low _ hs (by omega), runTicks_highPulse (by exact hs) hhigh (by exact hcap) (by simp only; omega)]
  simp only [Nat.add_assoc]

end Sys2Proof.Machine

end

/-! ### The bits of a frame, packed most significant first -/

section

namespace Sys2Proof.Machine

/-- The five bytes side by side: no bit of one is a bit of another. -/
theorem Frame.number_eq_or (f : Frame) :
    f.number = f.b0.toNat <<< 32 ||| f.b1.toNat <<< 24 ||| f.b2.toNat <<< 16 ||| f.b3.toNat <<< 8 ||| f.b4.toNat := by
  have hbyte (x : Nat) (b : Byte) : x * 256 + b.toNat = x <<< 8 ||| b.toNat := by
    rw [← Nat.shiftLeft_add_eq_or_of_lt b.isLt, Nat.shiftLeft_eq]
  simp only [Frame.number, hbyte, Nat.shiftLeft_or_distrib, ← Nat.shiftLeft_add]

/-- Setting bits in byte `k` sets them at that byte's place of the number (R292). -/
theorem Frame.number_orByte (f : Frame) {k : Nat} (hk : k < Config.nbytes) (m : Byte) :
    (f.orByte k m).number = f.number ||| m.toNat <<< (8 * (4 - k)) := by
  have hk' : k = 0 ∨ k = 1 ∨ k = 2 ∨ k = 3 ∨ k = 4 := by simp only [Config.nbytes] at hk; omega
  rcases hk' with rfl | rfl | rfl | rfl | rfl <;>
    simp only [Frame.orByte, Frame.number_eq_or, BitVec.toNat_or, Nat.shiftLeft_or_distrib,
      Nat.reduceSub, Nat.reduceMul, Nat.shiftLeft_zero, Nat.or_assoc, Nat.or_comm, Nat.or_left_comm]

/-- The bit that `assemble` sets in byte `i / 8`, at its place in the whole frame (R290). -/
theorem assembleMask_shiftLeft {i : Nat} (hi : i < Config.nbits) :
    (1#8 <<< (7 - i % 8)).toNat <<< (8 * (4 - i / 8)) = 1 <<< (39 - i) := by
  have hmask : (1#8 <<< (7 - i % 8)).toNat = 1 <<< (7 - i % 8) := by
    have hlt : 1 <<< (7 - i % 8) < 2 ^ 8 := by
      rw [Nat.one_shiftLeft]
      exact Nat.pow_lt_pow_right (by decide) (by omega)
    rw [BitVec.toNat_shiftLeft]
    exact Nat.mod_eq_of_lt hlt
  have hplace : 7 - i % 8 + 8 * (4 - i / 8) = 39 - i := by simp only [Config.nbits] at hi; omega
  rw [hmask, ← Nat.shiftLeft_add, hplace]

/-- Bit `i` of the frame stands at place `39 - i` of the number (R290, R292). -/
theorem number_assemble (f : Frame) {i : Nat} (hi : i < Config.nbits) (b : Bool) :
    (assemble f i b).number = f.number ||| b.toNat <<< (39 - i) := by
  cases b with
  | false => rw [Bool.toNat_false, Nat.zero_shiftLeft, Nat.or_zero]; rfl
  | true =>
    have hbyte : i / 8 < Config.nbytes := by simp only [Config.nbits, Config.nbytes] at hi ⊢; omega
    rw [assemble, if_pos rfl, Frame.number_orByte f hbyte, assembleMask_shiftLeft hi, Bool.toNat_true]

/-- A frame with the number `n` in its first `i` bits and nothing behind them gets one digit more (R292). -/
theorem number_assemble_of_prefix {f : Frame} {n i : Nat} (hi : i < Config.nbits)
    (hf : f.number = n <<< (40 - i)) (b : Bool) :
    (assemble f i b).number = (2 * n + b.toNat) <<< (40 - (i + 1)) := by
  have hplaces : 40 - i = 1 + (40 - (i + 1)) := by simp only [Config.nbits] at hi; omega
  have hdigit : n <<< 1 ||| b.toNat = 2 * n + b.toNat := by
    rw [← Nat.shiftLeft_add_eq_or_of_lt (Bool.toNat_lt b), Nat.shiftLeft_eq, Nat.pow_one, Nat.mul_comm]
  calc (assemble f i b).number = n <<< (40 - i) ||| b.toNat <<< (40 - (i + 1)) := by
        rw [number_assemble f hi, hf, Nat.add_comm i, Nat.sub_add_eq]
    _ = (n <<< 1 ||| b.toNat) <<< (40 - (i + 1)) := by
        rw [hplaces, Nat.shiftLeft_add, Nat.shiftLeft_or_distrib]
    _ = (2 * n + b.toNat) <<< (40 - (i + 1)) := by rw [hdigit]

/-- The bits assembled one by one into `f`, from bit `i` on (R290). -/
def assembleBits (f : Frame) (i : Nat) (bits : List Bool) : Frame :=
  (bits.zipIdx i).foldl (fun f b => assemble f b.2 b.1) f

theorem assembleBits_nil (f : Frame) (i : Nat) : assembleBits f i [] = f := rfl

theorem assembleBits_cons (f : Frame) (i : Nat) (b : Bool) (bits : List Bool) :
    assembleBits f i (b :: bits) = assembleBits (assemble f i b) (i + 1) bits := rfl

/-- Assembling further bits behind a prefix `n` reads them on as digits (R292). -/
theorem number_assembleBits {f : Frame} {n i : Nat} (bits : List Bool) (hi : i + bits.length ≤ Config.nbits)
    (hf : f.number = n <<< (40 - i)) :
    (assembleBits f i bits).number =
      (bits.foldl (fun n b => 2 * n + b.toNat) n) <<< (40 - (i + bits.length)) := by
  induction bits generalizing f n i with
  | nil => exact hf
  | cons b bits ih =>
    rw [List.length_cons] at hi ⊢
    rw [assembleBits_cons, ih (by omega) (number_assemble_of_prefix (by omega) hf b), List.foldl_cons,
      show i + 1 + bits.length = i + (bits.length + 1) by omega]

/-- The 40 bits of a frame, assembled in order, are its number (R292). -/
theorem number_assembleBits_zero {bits : List Bool} (h : bits.length = 40) :
    (assembleBits Frame.zero 0 bits).number = msbFirst bits := by
  have hnum := number_assembleBits (f := Frame.zero) (n := 0) (i := 0) bits (by simp only [h, Config.nbits]; omega) rfl
  rwa [h] at hnum

end Sys2Proof.Machine

end

/-! ### A frame on the line -/

section

namespace Sys2Proof.Machine

/-- The bits that the high widths classify as (R261). -/
def pulseBits (c : Config) (pulses : List Pulse) : List Bool := pulses.map fun p => classify c p.high

/-- What `pulses` leave of a state `s` of the bit loop. -/
structure AfterPulses (s : State) (pulses : List Pulse) (t : State) : Prop where
  state : t.state = stateForBit (s.bitIdx + pulses.length)
  bitIdx : t.bitIdx = s.bitIdx + pulses.length
  elapsed : t.elapsed = s.elapsed + (pulses.flatMap Pulse.samples).length
  buf : t.buf = assembleBits s.buf s.bitIdx (pulseBits s.cfg pulses)
  cfg : t.cfg = s.cfg
  out : t.out = s.out

theorem AfterPulses.nil {s : State} (hs : s.state = stateForBit s.bitIdx) : AfterPulses s [] s :=
  ⟨hs, rfl, rfl, rfl, rfl, rfl⟩

theorem AfterPulses.cons {s t : State} {p : Pulse} {pulses : List Pulse}
    (h : AfterPulses (afterPulse s p) pulses t) : AfterPulses s (p :: pulses) t where
  state := by rw [h.state, List.length_cons, Nat.add_comm pulses.length, ← Nat.add_assoc]; rfl
  bitIdx := by rw [h.bitIdx, List.length_cons, Nat.add_comm pulses.length, ← Nat.add_assoc]; rfl
  elapsed := by rw [h.elapsed, List.flatMap_cons, List.length_append, ← Nat.add_assoc]; rfl
  buf := h.buf
  cfg := h.cfg
  out := h.out

/-- Pulses of legal widths that end by the deadline are stored one after the other, up to the end of the frame
(R264, R290). -/
theorem runTicks_pulses {s : State} (pulses : List Pulse) (hs : s.state = stateForBit s.bitIdx)
    (hidx : s.bitIdx + pulses.length ≤ Config.nbits) (hp : ∀ p ∈ pulses, 1 ≤ p.high ∧ p.high ≤ s.cfg.pulseCap)
    (h : s.elapsed + (pulses.flatMap Pulse.samples).length ≤ s.cfg.deadlineUs) :
    AfterPulses s pulses (runTicks (pulses.flatMap Pulse.samples) s) := by
  induction pulses generalizing s with
  | nil => exact .nil hs
  | cons p pulses ih =>
    rw [List.length_cons] at hidx
    rw [List.flatMap_cons, List.length_append] at h
    obtain ⟨⟨hhigh, hcap⟩, hrest⟩ := List.forall_mem_cons.mp hp
    have hwait : s.state = .bitWaitLow := hs.trans (if_neg (by omega))
    rw [List.flatMap_cons, runTicks_append, runTicks_pulse hwait hhigh hcap (by omega)]
    refine .cons (ih rfl ?_ hrest ?_)
    · simp only [afterPulse]; omega
    · simp only [afterPulse]; omega

/-- Settles O41: the pulses fill the buffer by `runTicks_pulses`, and the last tick validates it. -/
theorem frameOnTheLineIsReceived : Obligations.FrameOnTheLineIsReceived := by
  intro s pulses last hs hidx hbuf hlen hp hdeadline
  have hpulses := runTicks_pulses pulses (s := s) (by rw [hs, hidx]; rfl)
    (by rw [hidx, hlen]; decide) hp (by omega)
  obtain ⟨u, hu⟩ : ∃ u, runTicks (pulses.flatMap Pulse.samples) s = u := ⟨_, rfl⟩
  rw [hu] at hpulses
  obtain ⟨hstate, hbits, helapsed, hframe, hcfg, hout⟩ := hpulses
  rw [hidx, hlen] at hstate hbits
  rw [hbuf, hidx] at hframe
  have hnum : u.buf.number = msbFirst (pulseBits s.cfg pulses) := by
    rw [hframe]
    exact number_assembleBits_zero (by rw [pulseBits, List.length_map, hlen])
  have hlast : runTicks (pulses.flatMap Pulse.samples ++ [last]) s = tickStep u last := by
    rw [runTicks_append, hu, runTicks_cons, runTicks_nil]
  refine ⟨u.buf, tickStep u last, hlast, hnum, ?_⟩
  rw [tickStep_checksumCheck hstate (by rw [hcfg]; omega)]
  by_cases hsum : checksumOk u.buf = true
  case pos =>
    rw [if_pos hsum]
    exact ⟨rfl, hbits, rfl, fun _ => ⟨rfl, rfl, rfl, rfl⟩, fun hbad => absurd (checksumOk_iff.mp hsum) hbad⟩
  case neg =>
    rw [if_neg hsum]
    exact ⟨rfl, hbits, rfl, fun hok => absurd (checksumOk_iff.mpr hok) hsum, fun _ => ⟨rfl, rfl, rfl, hout⟩⟩

end Sys2Proof.Machine

end

/-! ### The words of a register's transactions, and each transaction as a change of the cycle without one -/

section

namespace Sys2Proof.Machine

/-- A word with `W = 0` is the read of its slot (R110, R111). -/
theorem decode_readWord (slot : BitVec 6) (lane : BitVec 2) (d : RegWord) :
    decode (.bus (0#1 ++ slot ++ lane ++ d)) = decodeRead slot lane d := decodeBus_txnWord false slot lane d

/-- A word with `W = 1` is the write of its slot (R110, R111). -/
theorem decode_writeWord (slot : BitVec 6) (lane : BitVec 2) (d : RegWord) :
    decode (.bus (1#1 ++ slot ++ lane ++ d)) = decodeWrite slot lane d := decodeBus_txnWord true slot lane d

section

variable (slot : BitVec 6) (lane : BitVec 2) (wdata : RegWord) (s : State)

theorem exec_rdCtrl : exec (.rdCtrl lane wdata) s = .next (readCycle (ctrlView s) s) := rfl
theorem exec_rdRaw0 : exec (.rdRaw0 lane wdata) s = .next (readCycle (raw0View s) s) := rfl
theorem exec_rdRaw1 : exec (.rdRaw1 lane wdata) s = .next (readCycle (raw1View s) s) := rfl
theorem exec_rdHum : exec (.rdHum lane wdata) s = .next (readCycle (humView s) s) := rfl
theorem exec_rdTemp : exec (.rdTemp lane wdata) s = .next (readCycle (tempView s) s) := rfl
theorem exec_rdTemps : exec (.rdTemps lane wdata) s = .next (readCycle (tempsView s) s) := rfl
theorem exec_rdRsvd : exec (.rdRsvd slot lane wdata) s = .next (readCycle 0#32 s) := rfl

theorem exec_wrCtrlStart :
    exec (.wrCtrlStart lane wdata) s = .next (ctrlStartEffect wdata s (clockEdge s)) := rfl
theorem exec_wrCtrlNostart :
    exec (.wrCtrlNostart lane wdata) s = .next (setIe (ieOperand wdata) (clockEdge s)) := rfl
theorem exec_wrStatus : exec (.wrStatus lane wdata) s = .next (statusEffect wdata s (clockEdge s)) := rfl
theorem exec_wrRaw0 : exec (.wrRaw0 lane wdata) s = .next (clockEdge s) := rfl
theorem exec_wrRaw1 : exec (.wrRaw1 lane wdata) s = .next (clockEdge s) := rfl
theorem exec_wrHum : exec (.wrHum lane wdata) s = .next (clockEdge s) := rfl
theorem exec_wrTemp : exec (.wrTemp lane wdata) s = .next (clockEdge s) := rfl
theorem exec_wrTemps : exec (.wrTemps lane wdata) s = .next (clockEdge s) := rfl
theorem exec_wrRsvd : exec (.wrRsvd slot lane wdata) s = .next (clockEdge s) := rfl

end

/-- The busy states are those with the codes 1 to 8 (R54, R115, R116). -/
theorem busyState_eq_decide (q : FsmState) :
    busyState q = decide (1 ≤ q.code.toNat ∧ q.code.toNat ≤ 8) := by
  cases q
  case rsvd low => revert low; decide
  all_goals rfl

theorem busy_eq_true_iff {s : State} :
    busy s = true ↔ 1 ≤ s.state.code.toNat ∧ s.state.code.toNat ≤ 8 := by
  rw [busy, busyState_eq_decide, decide_eq_true_iff]

end Sys2Proof.Machine

end

/-! ### The register views as numbers -/

section

namespace Sys2Proof.Machine

/-- Bits written side by side, as a sum. -/
theorem toNat_append_eq_add {m n : Nat} (x : BitVec m) (y : BitVec n) :
    (x ++ y).toNat = x.toNat * 2 ^ n + y.toNat := by
  rw [BitVec.toNat_append, ← Nat.shiftLeft_add_eq_or_of_lt y.isLt, Nat.shiftLeft_eq]

theorem toNat_raw0View (s : State) : (raw0View s).toNat =
    s.out.b0.toNat + 2 ^ 8 * s.out.b1.toNat + 2 ^ 16 * s.out.b2.toNat + 2 ^ 24 * s.out.b3.toNat := by
  rw [raw0View, toNat_append_eq_add, toNat_append_eq_add, toNat_append_eq_add]
  omega

theorem toNat_raw1View (s : State) : (raw1View s).toNat = s.out.b4.toNat :=
  BitVec.toNat_setWidth_of_le (by decide)

/-- A register of two bytes reads them as a 16-bit number, the first the high one (R128, R129). -/
theorem toNat_twoBytes (hi lo : Byte) :
    ((hi ++ lo : BitVec 16).zeroExtend 32).toNat = 256 * hi.toNat + lo.toNat := by
  calc ((hi ++ lo : BitVec 16).zeroExtend 32).toNat = (hi ++ lo).toNat := BitVec.toNat_setWidth_of_le (by decide)
    _ = 256 * hi.toNat + lo.toNat := by rw [toNat_append_eq_add]; omega

theorem toNat_humView (s : State) : (humView s).toNat = 256 * s.out.b0.toNat + s.out.b1.toNat :=
  toNat_twoBytes s.out.b0 s.out.b1

theorem toNat_tempView (s : State) : (tempView s).toNat = 256 * s.out.b2.toNat + s.out.b3.toNat :=
  toNat_twoBytes s.out.b2 s.out.b3

/-- The magnitude leaves the sign bit out (R321). -/
theorem toNat_tempMag10 (f : Frame) : (tempMag10 f).toNat = 256 * (f.b2.toNat % 128) + f.b3.toNat := by
  have hmask : (f.b2 &&& 0x7F#8).toNat = f.b2.toNat % 128 := Nat.and_two_pow_sub_one_eq_mod f.b2.toNat 7
  rw [tempMag10, toNat_append_eq_add, hmask]; omega

theorem tempNeg_iff {f : Frame} : tempNeg f = true ↔ 128 ≤ f.b2.toNat := by
  have hmsb : tempNeg f = f.b2.msb := (BitVec.msb_eq_getLsbD_last f.b2).symm
  rw [hmsb, BitVec.msb_eq_decide, decide_eq_true_iff]

/-- A number below 2^31 that is subtracted from 2^32 reads as its negative, and 0 as 0 (R322). -/
theorem toInt_ofNat_two_pow_sub {m : Nat} (h : m < 2 ^ 31) : (BitVec.ofNat 32 (2 ^ 32 - m)).toInt = -(m : Int) := by
  rw [BitVec.toInt_eq_toNat_cond, BitVec.toNat_ofNat]
  split <;> omega

theorem toInt_tempS10 (f : Frame) :
    (tempS10 f).toInt = (if 128 ≤ f.b2.toNat then -1 else 1)
      * ((256 * (f.b2.toNat % 128) + f.b3.toNat : Nat) : Int) := by
  rw [← toNat_tempMag10]
  have hmag : (tempMag10 f).toNat < 2 ^ 31 := (tempMag10 f).isLt.trans (by decide)
  by_cases hneg : tempNeg f = true
  case pos => rw [tempS10, if_pos hneg, if_pos (tempNeg_iff.mp hneg), toInt_ofNat_two_pow_sub hmag, Int.neg_one_mul]
  case neg =>
    have hval : ((tempMag10 f).zeroExtend 32).toNat = (tempMag10 f).toNat := BitVec.toNat_setWidth_of_le (by decide)
    rw [tempS10, if_neg hneg, if_neg (mt tempNeg_iff.mpr hneg), Int.one_mul,
      BitVec.toInt_eq_toNat_of_lt (by omega), hval]

end Sys2Proof.Machine

end

/-! ### The outputs and DONE of a sound state, and what an edge does to DONE -/

section

namespace Sys2Proof.Machine

/-- No partial result is shown: the outputs of a sound state are clear in every FSM state but SUCCESS (R56). -/
theorem StateInv.out_eq_zero {s : State} (h : StateInv s) (hs : s.state ≠ .success) : s.out = Frame.zero := by
  have hphase := h.phase
  cases hq : s.state <;> simp only [phaseInv, hq] at hphase
  case success => exact absurd hq hs
  case timeout => obtain ⟨-, -, -, hout, -⟩ := hphase; exact hout
  case chkerr => obtain ⟨-, -, hout, -⟩ := hphase; exact hout
  all_goals
    obtain ⟨⟨-, -, -, hout⟩, -⟩ := hphase
    exact hout

/-- While an exchange runs, DONE is clear (R53, R154). -/
theorem StateInv.done_of_busy {s : State} (h : StateInv s) (hb : busy s = true) : s.done = false := by
  have hphase := h.phase
  rw [busy] at hb
  cases hq : s.state <;> simp only [phaseInv, hq] at hphase
  case idle | success | timeout | chkerr => rw [hq] at hb; exact nomatch hb
  all_goals
    obtain ⟨⟨-, hdone, -⟩, -⟩ := hphase
    exact hdone

theorem waitWhile_done_or_ends (c : FsmState) (level : Bool) (n : FsmState) (l : Bool) (s : State) :
    (waitWhile c level n l s).done = s.done ∨ busy (waitWhile c level n l s) = false := by
  rcases waitWhile_cases c level n l s with ⟨_, h⟩ | ⟨_, _, h⟩ | ⟨_, _, h⟩ <;> rw [h]
  case inl => exact .inr rfl
  all_goals exact .inl rfl

/-- A tick that changes DONE has ended the exchange (R53). -/
theorem tickStep_done_or_ends (s : State) (l : Bool) :
    (tickStep s l).done = s.done ∨ busy (tickStep s l) = false := by
  unfold tickStep
  split
  case h_2 => unfold tickStartLow; dsimp only; split <;> exact .inl rfl
  case h_3 => unfold tickStartHigh; dsimp only; split <;> exact .inl rfl
  case h_4 | h_5 | h_6 => exact waitWhile_done_or_ends ..
  case h_7 =>
    unfold tickBitWaitLow; dsimp only
    split
    · exact .inr rfl
    · split <;> exact .inl rfl
  case h_8 =>
    unfold tickBitMeasureHigh; dsimp only
    split
    · exact .inr rfl
    · split
      · split
        · exact .inr rfl
        · exact .inl rfl
      · exact .inl rfl
  case h_9 =>
    unfold tickChecksumCheck; dsimp only
    (repeat' split) <;> exact .inr rfl
  all_goals exact .inl rfl

/-- An edge after which an exchange is still in progress leaves DONE as it was. -/
theorem clockEdge_done_of_busy {s : State} (h : busy (clockEdge s) = true) : (clockEdge s).done = s.done := by
  cases ht : isTick s with
  | false => rw [clockEdge_of_no_tick ht, finishEdge_done]
  | true =>
    rw [clockEdge_of_tick ht] at h ⊢
    exact (tickStep_done_or_ends s (lin s)).resolve_right fun hend => nomatch hend.symm.trans h

end Sys2Proof.Machine

end

/-! ### The host's reads -/

section

namespace Sys2Proof.Machine

/-- Settles O13: the reads put the views of the pre-edge state on `bus_rdata`, and BUSY is a range of codes. -/
theorem controlReadsShowThePreEdgeState : Obligations.ControlReadsShowThePreEdgeState := by
  intro s lane wdata
  refine ⟨clockEdge s, exec_nop s, decode_readWord 0#6 lane wdata, decode_readWord 1#6 lane wdata,
    exec_rdCtrl lane wdata s, ?_⟩
  rw [exec_rdStatus, statusView, busy, busyState_eq_decide]
  rfl

/-- Settles O14: RAW0 and RAW1 are the bytes side by side, and a sound state shows none outside SUCCESS. -/
theorem rawReadsShowTheReceivedBytes : Obligations.RawReadsShowTheReceivedBytes := by
  intro s lane wdata
  refine ⟨clockEdge s, raw0View s, raw1View s, exec_nop s, exec_rdRaw0 lane wdata s, toNat_raw0View s,
    exec_rdRaw1 lane wdata s, toNat_raw1View s, decode_readWord 2#6 lane wdata, decode_readWord 3#6 lane wdata,
    fun hinv hs => ?_⟩
  rw [raw0View, raw1View, hinv.out_eq_zero hs]
  exact ⟨rfl, rfl⟩

/-- Settles O15: each value register as a number, and a sound state shows none outside SUCCESS. -/
theorem valueReadsShowTenths : Obligations.ValueReadsShowTenths := by
  intro s lane wdata
  refine ⟨clockEdge s, humView s, tempView s, tempsView s, exec_nop s, exec_rdHum lane wdata s, toNat_humView s,
    exec_rdTemp lane wdata s, toNat_tempView s, exec_rdTemps lane wdata s, toInt_tempS10 s.out,
    decode_readWord 4#6 lane wdata, decode_readWord 5#6 lane wdata, decode_readWord 6#6 lane wdata,
    fun hinv hs => ?_⟩
  rw [humView, tempView, tempsView, hinv.out_eq_zero hs]
  exact ⟨rfl, rfl, rfl⟩

/-- Settles O16: none of these transactions changes the cycle, and a slot of 7 or more decodes to the reserved rows. -/
theorem reservedAndReadOnlyAccessesHaveNoEffect : Obligations.ReservedAndReadOnlyAccessesHaveNoEffect := by
  intro s slot lane wdata
  exact ⟨clockEdge s, exec_nop s, exec_rdRsvd slot lane wdata s, exec_wrRsvd slot lane wdata s,
    exec_wrRaw0 lane wdata s, exec_wrRaw1 lane wdata s, exec_wrHum lane wdata s, exec_wrTemp lane wdata s,
    exec_wrTemps lane wdata s, decode_writeWord 2#6 lane wdata, decode_writeWord 3#6 lane wdata,
    decode_writeWord 4#6 lane wdata, decode_writeWord 5#6 lane wdata, decode_writeWord 6#6 lane wdata,
    fun hslot => ⟨(decode_readWord slot lane wdata).trans (decodeRead_of_reserved hslot lane wdata),
      (decode_writeWord slot lane wdata).trans (decodeWrite_of_reserved hslot lane wdata)⟩⟩

end Sys2Proof.Machine

end

/-! ### The host's writes -/

section

namespace Sys2Proof.Machine

/-- Settles O17: `ctrlStartEffect` asks whether the pre-edge state is busy, which is a range of codes. -/
theorem startIsAcceptedUnlessBusy : Obligations.StartIsAcceptedUnlessBusy := by
  intro s lane wdata
  refine ⟨clockEdge s, exec_nop s, fun hstart => ?word, fun hcode => ?ignored, fun hcode => ?accepted⟩
  case word => rw [decode_writeWord, decodeWrite_ctrl, if_pos hstart]
  case ignored =>
    rw [exec_wrCtrlStart, ctrlStartEffect_of_busy (busy_eq_true_iff.mpr hcode)]; rfl
  case accepted =>
    have hb : busy s = false := Bool.eq_false_of_not_eq_true (mt busy_eq_true_iff.mp hcode)
    rw [exec_wrCtrlStart, ctrlStartEffect_of_not_busy hb]; rfl

/-- Settles O18: the write sets IE in the state that the cycle leaves. -/
theorem controlWriteWithoutStartSetsTheEnable : Obligations.ControlWriteWithoutStartSetsTheEnable := by
  intro s lane wdata
  refine ⟨clockEdge s, exec_nop s, fun hstart => ?_, exec_wrCtrlNostart lane wdata s, rfl⟩
  rw [decode_writeWord, decodeWrite_ctrl, if_neg (by rw [hstart]; exact Bool.false_ne_true)]

theorem clearDone_of_done_eq_false {s : State} (h : s.done = false) : clearDone s = s := by
  rw [clearDone, ← h]

/-- In a sound busy state a write of STATUS has nothing to clear, or the tick's own DONE wins (R155). -/
theorem statusEffect_of_stateInv_busy {s : State} (h : StateInv s) (hb : busy s = true) (v : RegWord) :
    statusEffect v s (clockEdge s) = clockEdge s := by
  by_cases hclr : doneClrOperand v = true ∧ busy (clockEdge s) = true
  case pos =>
    obtain ⟨hd, hb1⟩ := hclr
    rw [statusEffect_of_clear hd fun _ => hb1]
    exact clearDone_of_done_eq_false ((clockEdge_done_of_busy hb1).trans (h.done_of_busy hb))
  case neg => exact statusEffect_of_keep fun hd => ⟨hb, Bool.eq_false_of_not_eq_true fun hb1 => hclr ⟨hd, hb1⟩⟩

/-- Settles O19: `statusEffect` clears DONE exactly when bit 3 asks for it and this cycle's tick has not set it. -/
theorem statusWriteClearsDoneUnlessJustSet : Obligations.StatusWriteClearsDoneUnlessJustSet := by
  intro s lane wdata
  refine ⟨clockEdge s, exec_nop s, decode_writeWord 1#6 lane wdata, ?soundBusy, ?noBit, ?justSet, ?clear⟩ <;>
    rw [exec_wrStatus]
  case soundBusy => exact fun hinv hb => by rw [statusEffect_of_stateInv_busy hinv hb]
  case noBit => exact fun hd => by rw [statusEffect_of_keep fun hclr => nomatch hd.symm.trans hclr]
  case justSet => exact fun hend => by rw [statusEffect_of_keep fun _ => hend]
  case clear =>
    rintro ⟨hd, hend⟩
    rw [statusEffect_of_clear hd fun hb => Bool.of_not_eq_false fun hb1 => hend ⟨hb, hb1⟩]; rfl

end Sys2Proof.Machine

end

/-! ### A tick of the start pulse -/

section

namespace Sys2Proof.Machine

/-- The ticks that an FSM state of the start pulse lasts (R203, R204); 0 for the other FSM states. -/
def startPhaseTicks (c : Config) : FsmState → Nat
  | .startLow => c.startLowUs
  | .startHigh => c.startHighUs
  | _ => 0

/-- What the last tick of a part of the start pulse does besides counting: the line is driven high (R203) or released
(R204). -/
def endStartPhase (s : State) : State :=
  match s.state with
  | .startLow => { s with state := .startHigh, lineO := true, phaseCnt := 0 }
  | .startHigh => { s with state := .awaitReleaseHigh, lineOe := false, phaseCnt := 0 }
  | _ => s

theorem startPhaseTicks_of_startLow {s : State} (hs : s.state = .startLow) :
    startPhaseTicks s.cfg s.state = s.cfg.startLowUs := by
  rw [hs, startPhaseTicks]

theorem startPhaseTicks_of_startHigh {s : State} (hs : s.state = .startHigh) :
    startPhaseTicks s.cfg s.state = s.cfg.startHighUs := by
  rw [hs, startPhaseTicks]

theorem endStartPhase_of_startLow {s : State} (hs : s.state = .startLow) :
    endStartPhase s = { s with state := .startHigh, lineO := true, phaseCnt := 0 } := by
  rw [endStartPhase, hs]

theorem endStartPhase_of_startHigh {s : State} (hs : s.state = .startHigh) :
    endStartPhase s = { s with state := .awaitReleaseHigh, lineOe := false, phaseCnt := 0 } := by
  rw [endStartPhase, hs]

/-- A tick of the start pulse counts itself, and the last of its part ends that part, whatever is sampled. -/
theorem tickStep_of_startPulse {s : State} (hs : s.state = .startLow ∨ s.state = .startHigh) (l : Bool) :
    tickStep s l = if s.phaseCnt + 1 = startPhaseTicks s.cfg s.state then endStartPhase (countTick s)
      else { countTick s with phaseCnt := s.phaseCnt + 1 } := by
  rcases hs with hs | hs
  · rw [startPhaseTicks_of_startLow hs, endStartPhase_of_startLow (by exact hs)]
    simp only [tickStep, hs]; rfl
  · rw [startPhaseTicks_of_startHigh hs, endStartPhase_of_startHigh (by exact hs)]
    simp only [tickStep, hs]; rfl

theorem tickStep_of_startPulse_last {s : State} (hs : s.state = .startLow ∨ s.state = .startHigh)
    (h : s.phaseCnt + 1 = startPhaseTicks s.cfg s.state) (l : Bool) : tickStep s l = endStartPhase (countTick s) :=
  (tickStep_of_startPulse hs l).trans (if_pos h)

theorem tickStep_of_startPulse_inside {s : State} (hs : s.state = .startLow ∨ s.state = .startHigh)
    (h : s.phaseCnt + 1 ≠ startPhaseTicks s.cfg s.state) (l : Bool) :
    tickStep s l = { countTick s with phaseCnt := s.phaseCnt + 1 } :=
  (tickStep_of_startPulse hs l).trans (if_neg h)

theorem exec_startLow {s : State} (hs : s.state = .startLow) : exec .startLow s = .next (tickStep s (lin s)) := by
  rw [← exec_instrOfState, hs, instrOfState]

theorem exec_startHigh {s : State} (hs : s.state = .startHigh) : exec .startHigh s = .next (tickStep s (lin s)) := by
  rw [← exec_instrOfState, hs, instrOfState]

/-- Settles O21: R203's test of `phase_cnt`, with R43's saturating count. -/
theorem startLowTick : Obligations.StartLowTick := by
  intro s hs
  rw [← startPhaseTicks_of_startLow hs, exec_startLow hs]
  refine ⟨fun h => ?last, fun h => ?inside⟩
  case last => rw [tickStep_of_startPulse_last (.inl hs) h, endStartPhase_of_startLow (by exact hs)]; rfl
  case inside => rw [tickStep_of_startPulse_inside (.inl hs) h]; rfl

/-- Settles O22: R204's test of `phase_cnt`, with R43's saturating count. -/
theorem startHighTick : Obligations.StartHighTick := by
  intro s hs
  rw [← startPhaseTicks_of_startHigh hs, exec_startHigh hs]
  refine ⟨fun h => ?last, fun h => ?inside⟩
  case last => rw [tickStep_of_startPulse_last (.inr hs) h, endStartPhase_of_startHigh (by exact hs)]; rfl
  case inside => rw [tickStep_of_startPulse_inside (.inr hs) h]; rfl

/-- In a sound state of the start pulse, `phase_cnt` is within its part and the deadline is ahead (R205, R11). -/
theorem StateInv.counts_of_startPulse {s : State} (h : StateInv s)
    (hs : s.state = .startLow ∨ s.state = .startHigh) :
    s.phaseCnt < startPhaseTicks s.cfg s.state ∧ s.elapsed < s.cfg.deadlineUs := by
  obtain ⟨-, -, -, -, -, hdeadline, -, -⟩ := configLegal_iff.mp h.legal
  have hphase := h.phase
  rcases hs with hs | hs <;> simp only [phaseInv, hs] at hphase <;> obtain ⟨-, -, helapsed, hcnt⟩ := hphase
  · rw [startPhaseTicks_of_startLow hs]; omega
  · rw [startPhaseTicks_of_startHigh hs]; omega

theorem endStartPhase_state_cases {s : State} (hs : s.state = .startLow ∨ s.state = .startHigh) :
    (endStartPhase s).state = .startHigh ∨ (endStartPhase s).state = .awaitReleaseHigh := by
  rcases hs with hs | hs
  · exact .inl (by rw [endStartPhase_of_startLow hs])
  · exact .inr (by rw [endStartPhase_of_startHigh hs])

@[simp] theorem endStartPhase_elapsed (s : State) : (endStartPhase s).elapsed = s.elapsed := by
  unfold endStartPhase; split <;> rfl

@[simp] theorem endStartPhase_done (s : State) : (endStartPhase s).done = s.done := by
  unfold endStartPhase; split <;> rfl

/-- The end of a part clears `phase_cnt`, whatever it was. -/
theorem endStartPhase_of_phaseCnt {s : State} (hs : s.state = .startLow ∨ s.state = .startHigh) (n : Nat) :
    endStartPhase { s with phaseCnt := n } = endStartPhase s := by
  rcases hs with hs | hs
  · rw [endStartPhase_of_startLow hs, endStartPhase_of_startLow (by exact hs)]
  · rw [endStartPhase_of_startHigh hs, endStartPhase_of_startHigh (by exact hs)]

/-- Settles O29: the sample is not read by a tick of the start pulse, and `elapsed` counts to at most `DEADLINE_US`. -/
theorem deadlineIsOutOfReachInTheStartPulse : Obligations.DeadlineIsOutOfReachInTheStartPulse := by
  intro s h hs
  obtain ⟨-, hlt⟩ := h.counts_of_startPulse hs
  have hcount := elapsedNext_of_lt hlt
  rw [exec_row_of_code]
  by_cases hlast : s.phaseCnt + 1 = startPhaseTicks s.cfg s.state
  case pos =>
    have htick := tickStep_of_startPulse_last hs hlast
    refine ⟨_, rfl, fun l => (htick l).trans (htick _).symm, ?_⟩
    rw [htick, endStartPhase_elapsed, endStartPhase_done, countTick_elapsed, hcount]
    exact ⟨rfl, hlt, .inr (endStartPhase_state_cases (by exact hs)), rfl⟩
  case neg =>
    have htick := tickStep_of_startPulse_inside hs hlast
    refine ⟨_, rfl, fun l => (htick l).trans (htick _).symm, ?_⟩
    rw [htick]
    exact ⟨hcount, hcount.trans_le hlt, hs.imp_right .inl, rfl⟩

/-! #### The start pulse over its ticks -/

/-- Ticks inside one part of the start pulse are counted, whatever is sampled (R203, R204). -/
theorem runTicks_of_startPulse_inside {s : State} (samples : List Bool)
    (hs : s.state = .startLow ∨ s.state = .startHigh) (h : s.phaseCnt + samples.length < startPhaseTicks s.cfg s.state)
    (hd : s.elapsed + samples.length ≤ s.cfg.deadlineUs) :
    runTicks samples s = { s with
      elapsed := s.elapsed + samples.length, phaseCnt := s.phaseCnt + samples.length } := by
  induction samples generalizing s with
  | nil => rfl
  | cons l samples ih =>
    rw [List.length_cons] at h hd
    rw [runTicks_cons, tickStep_of_startPulse_inside hs (by omega), countTick_of_lt (by omega),
      ih (by exact hs) (by simp only; omega) (by simp only; omega)]
    simp only [List.length_cons, Nat.add_assoc, Nat.add_comm 1]

/-- The ticks that complete a part of the start pulse, whatever is sampled (R203, R204). -/
theorem runTicks_of_startPulse_last {s : State} (samples : List Bool)
    (hs : s.state = .startLow ∨ s.state = .startHigh) (hcnt : s.phaseCnt < startPhaseTicks s.cfg s.state)
    (h : s.phaseCnt + samples.length = startPhaseTicks s.cfg s.state) (hd : s.elapsed + samples.length ≤ s.cfg.deadlineUs) :
    runTicks samples s = endStartPhase { s with elapsed := s.elapsed + samples.length } := by
  rcases List.eq_nil_or_concat' samples with rfl | ⟨init, last, rfl⟩
  case inl => rw [List.length_nil] at h; omega
  case inr =>
    rw [List.length_append, List.length_singleton] at h hd
    rw [runTicks_append, runTicks_of_startPulse_inside init hs (by omega) (by omega), runTicks_cons, runTicks_nil,
      tickStep_of_startPulse_last (by exact hs) (by exact h), countTick_of_lt (by simp only; omega)]
    rw [List.length_append, List.length_singleton]
    exact endStartPhase_of_phaseCnt (s := { s with elapsed := s.elapsed + (init.length + 1) }) hs _

/-- The state of a start pulse right after its `START_LOW_US` low ticks (R206). -/
def afterStartLow (s : State) : State :=
  { s with elapsed := s.cfg.startLowUs, phaseCnt := 0, state := .startHigh, lineO := true }

theorem runTicks_startLow {s : State} (samples : List Bool) (hc : configLegal s.cfg = true)
    (hs : s.state = .startLow) (hcnt : s.phaseCnt = 0) (helapsed : s.elapsed = 0)
    (h : samples.length = s.cfg.startLowUs) : runTicks samples s = afterStartLow s := by
  obtain ⟨-, -, hlow, -, -, hdeadline, -, -⟩ := configLegal_iff.mp hc
  rw [runTicks_of_startPulse_last samples (.inl hs) (by rw [startPhaseTicks_of_startLow hs]; omega)
    (by rw [startPhaseTicks_of_startLow hs]; omega) (by omega), endStartPhase_of_startLow (by exact hs), afterStartLow,
    helapsed, h, Nat.zero_add]

/-- Settles O38: the samples are split where START_LOW ends. -/
theorem startPulseOnTheLine : Obligations.StartPulseOnTheLine := by
  intro s samples hc hs hcnt helapsed hoe ho
  obtain ⟨-, -, hlow, hhigh, -, hdeadline, -, -⟩ := configLegal_iff.mp hc
  have hsplit : s.cfg.startLowUs ≤ samples.length →
      runTicks samples s = runTicks (samples.drop s.cfg.startLowUs) (afterStartLow s) := fun h => by
    rw [← runTicks_startLow (samples.take s.cfg.startLowUs) hc hs hcnt helapsed (List.length_take_of_le h),
      ← runTicks_append, List.take_append_drop]
  refine ⟨fun h => ?low, fun h hend => ?high, fun h => ?released⟩
  case low =>
    rw [runTicks_of_startPulse_inside samples (.inl hs) (by rw [startPhaseTicks_of_startLow hs]; omega) (by omega),
      hcnt, helapsed, Nat.zero_add]
  case high =>
    have hlen := List.length_drop (i := s.cfg.startLowUs) (l := samples)
    rw [hsplit h, runTicks_of_startPulse_inside _ (.inr rfl)
      (by simp only [afterStartLow, startPhaseTicks]; omega) (by simp only [afterStartLow]; omega)]
    simp only [afterStartLow, hlen, Nat.zero_add, Nat.add_sub_cancel' h]
  case released =>
    have hlen := List.length_drop (i := s.cfg.startLowUs) (l := samples)
    rw [hsplit (by omega), runTicks_of_startPulse_last _ (.inr rfl)
      (by simp only [afterStartLow, startPhaseTicks]; omega)
      (by simp only [afterStartLow, startPhaseTicks]; omega) (by simp only [afterStartLow]; omega),
      endStartPhase_of_startHigh rfl]
    simp only [afterStartLow, hlen, Nat.add_sub_cancel' (show s.cfg.startLowUs ≤ samples.length by omega)]

end Sys2Proof.Machine

end

/-! ### A tick keeps the invariant -/

section

namespace Sys2Proof.Machine

/-- While the FSM stays in its state, only that state's own facts can be in question. -/
theorem StateInv.ofSameState {s : State} (h : StateInv s) {e ph p : Nat} {d : Bool}
    (hphase : phaseInv { s with elapsed := e, phaseCnt := ph, pulseCnt := p, done := d }) :
    StateInv { s with elapsed := e, phaseCnt := ph, pulseCnt := p, done := d } :=
  ⟨h.legal, h.syncLength, h.prescaler, h.lineDriven, h.lineLow, hphase⟩

/-! #### The start pulse -/

/-- A tick inside a part of the start pulse keeps the invariant (R203, R204). -/
theorem StateInv.startPulse_inside {s : State} (h : StateInv s) (hs : s.state = .startLow ∨ s.state = .startHigh)
    (hcnt : s.phaseCnt + 1 < startPhaseTicks s.cfg s.state) :
    StateInv { countTick s with phaseCnt := s.phaseCnt + 1 } := by
  refine h.ofSameState ?_
  obtain ⟨-, hd⟩ := h.counts_of_startPulse hs
  have hphase := h.phase
  rw [countTick_of_lt hd]
  rcases hs with hs | hs <;> simp only [phaseInv, hs] at hphase ⊢ <;> obtain ⟨hres, hbits, helapsed, -⟩ := hphase
  · rw [startPhaseTicks_of_startLow hs] at hcnt
    exact ⟨hres, hbits, by omega, hcnt⟩
  · rw [startPhaseTicks_of_startHigh hs] at hcnt
    exact ⟨hres, hbits, by omega, hcnt⟩

/-- START_LOW ends in START_HIGH with the line driven high (R203). -/
theorem StateInv.startLow_last {s : State} (h : StateInv s) (hs : s.state = .startLow)
    (hcnt : s.phaseCnt + 1 = s.cfg.startLowUs) :
    StateInv { countTick s with state := .startHigh, lineO := true, phaseCnt := 0 } := by
  obtain ⟨-, -, -, hhigh, -, -, -, -⟩ := configLegal_iff.mp h.legal
  obtain ⟨-, hd⟩ := h.counts_of_startPulse (.inl hs)
  have hphase := h.phase
  simp only [phaseInv, hs] at hphase
  obtain ⟨hres, hbits, helapsed, -⟩ := hphase
  rw [countTick_of_lt hd]
  exact ⟨h.legal, h.syncLength, h.prescaler, by simp [h.lineDriven.mpr (.inl hs)], by simp,
    hres, hbits, by simp only; omega, by simp only; omega⟩

/-- START_HIGH ends in AWAIT_RELEASE_HIGH with the line released (R204). -/
theorem StateInv.startHigh_last {s : State} (h : StateInv s) (hs : s.state = .startHigh)
    (hcnt : s.phaseCnt + 1 = s.cfg.startHighUs) :
    StateInv { countTick s with state := .awaitReleaseHigh, lineOe := false, phaseCnt := 0 } := by
  obtain ⟨-, hd⟩ := h.counts_of_startPulse (.inr hs)
  have hlow : s.lineO = true := Bool.of_not_eq_false fun ho => nomatch hs.symm.trans (h.lineLow.mp ho)
  have hphase := h.phase
  simp only [phaseInv, hs] at hphase
  obtain ⟨hres, hbits, helapsed, -⟩ := hphase
  rw [countTick_of_lt hd]
  exact ⟨h.legal, h.syncLength, h.prescaler, by simp, by simp [hlow],
    hres, hbits, rfl, by simp only [startTicks]; omega, by simp only; omega⟩

theorem stateInv_tickStep_of_startPulse {s : State} (h : StateInv s)
    (hs : s.state = .startLow ∨ s.state = .startHigh) (l : Bool) : StateInv (tickStep s l) := by
  obtain ⟨hcnt, -⟩ := h.counts_of_startPulse hs
  by_cases hlast : s.phaseCnt + 1 = startPhaseTicks s.cfg s.state
  case neg =>
    rw [tickStep_of_startPulse_inside hs hlast]
    exact h.startPulse_inside hs (by omega)
  case pos =>
    rw [tickStep_of_startPulse_last hs hlast]
    rcases hs with hs | hs
    · rw [endStartPhase_of_startLow (by exact hs)]
      exact h.startLow_last hs (hlast.trans (startPhaseTicks_of_startLow hs))
    · rw [endStartPhase_of_startHigh (by exact hs)]
      exact h.startHigh_last hs (hlast.trans (startPhaseTicks_of_startHigh hs))

/-! #### The states that test the deadline, codes 3 to 8 -/

/-- The FSM states whose tick first tests the deadline (R231, R262, R263, R310). -/
def testsDeadline : FsmState → Bool
  | .awaitReleaseHigh | .awaitAckLow | .awaitAckHigh | .bitWaitLow | .bitMeasureHigh | .checksumCheck => true
  | .idle | .startLow | .startHigh | .success | .timeout | .chkerr | .rsvd _ => false

/-- What the invariant says in every state that tests the deadline. -/
structure Receiving (s : State) : Prop where
  unfinished : noResult s
  inTime : waiting s
  bitIdx : s.bitIdx ≤ Config.nbits
  pulseCnt : s.pulseCnt ≤ s.cfg.pulseCap

theorem receiving_of_phaseInv {s : State} (h : phaseInv s) (hs : testsDeadline s.state = true) : Receiving s := by
  cases hq : s.state <;> simp only [phaseInv, hq] at h
  case awaitReleaseHigh | awaitAckLow | awaitAckHigh =>
    obtain ⟨hres, ⟨hidx, hpulse, -⟩, hwait⟩ := h
    exact ⟨hres, hwait, by omega, by omega⟩
  case bitWaitLow =>
    obtain ⟨hres, hwait, hidx, hpulse⟩ := h
    exact ⟨hres, hwait, hidx.le, hpulse⟩
  case bitMeasureHigh | checksumCheck =>
    obtain ⟨hres, hwait, hidx, -, hpulse⟩ := h
    exact ⟨hres, hwait, hidx.le, hpulse⟩
  all_goals
    rw [hq] at hs
    exact nomatch hs

/-- Past the deadline every state that tests it raises Timeout (R231, R352). -/
theorem tickStep_of_deadline {s : State} (hs : testsDeadline s.state = true) (hd : s.cfg.deadlineUs ≤ s.elapsed)
    (l : Bool) : tickStep s l = raiseTimeout s.state (countTick s) := by
  have hpassed : deadlinePassed (countTick s) = true := by
    rw [deadlinePassed_countTick, decide_eq_true_iff]; exact hd
  cases hq : s.state <;> simp only [tickStep, hq]
  case awaitReleaseHigh | awaitAckLow | awaitAckHigh | bitWaitLow | bitMeasureHigh | checksumCheck =>
    exact if_pos hpassed
  all_goals
    rw [hq] at hs
    exact nomatch hs

/-- A tick before the deadline leaves it not exceeded (R44). -/
theorem waiting_countTick {s : State} (h : waiting s) (hd : s.elapsed < s.cfg.deadlineUs) : waiting (countTick s) := by
  obtain ⟨hphase, hstart, -⟩ := h
  rw [countTick_of_lt hd]
  exact ⟨hphase, hstart.trans (Nat.le_succ _), hd⟩

/-- After the start pulse the line stays released, so a change of the exchange's own fields is sound when those are. -/
theorem StateInv.ofReceiving {s : State} (h : StateInv s) (hs : testsDeadline s.state = true)
    {q : FsmState} {e p i : Nat} {b o : Frame} {r : BitVec 2} {d : Bool} {f : BitVec 4}
    (hlow : q ≠ .startLow) (hhigh : q ≠ .startHigh)
    (hphase : phaseInv { s with
      state := q, elapsed := e, pulseCnt := p, bitIdx := i, buf := b, out := o, result := r, done := d, failState := f }) :
    StateInv { s with
      state := q, elapsed := e, pulseCnt := p, bitIdx := i, buf := b, out := o, result := r, done := d, failState := f } := by
  have hslow : s.state ≠ .startLow := fun hq => by rw [hq] at hs; exact nomatch hs
  have hshigh : s.state ≠ .startHigh := fun hq => by rw [hq] at hs; exact nomatch hs
  exact ⟨h.legal, h.syncLength, h.prescaler, by rw [h.lineDriven]; simp [hslow, hshigh, hlow, hhigh],
    by rw [h.lineLow]; simp [hslow, hlow], hphase⟩

theorem code_of_testsDeadline {q : FsmState} (h : testsDeadline q = true) : 3 ≤ q.code.toNat ∧ q.code.toNat ≤ 8 := by
  cases q
  case awaitReleaseHigh | awaitAckLow | awaitAckHigh | bitWaitLow | bitMeasureHigh | checksumCheck => decide
  all_goals exact nomatch h

/-- Timeout shows nothing of the frame, and says in which state it was raised (R352, R357). -/
theorem stateInv_raiseTimeout {s : State} (h : StateInv s) (hs : testsDeadline s.state = true) {c : FsmState}
    (hc : testsDeadline c = true) : StateInv (raiseTimeout c (countTick s)) := by
  obtain ⟨⟨-, -, -, hout⟩, ⟨hcnt, -, -⟩, hidx, hpulse⟩ := receiving_of_phaseInv h.phase hs
  obtain ⟨h3, h8⟩ := code_of_testsDeadline hc
  exact h.ofReceiving hs nofun nofun ⟨rfl, h3, h8, hout, hcnt, Nat.min_le_right _ _, hidx, hpulse⟩

/-- Without bits, the handshake states and BIT_WAIT_LOW ask for the same facts. -/
theorem phaseInv_of_noBits {s : State} (hs : s.state = .awaitReleaseHigh ∨ s.state = .awaitAckLow
    ∨ s.state = .awaitAckHigh ∨ s.state = .bitWaitLow) (hres : noResult s) (hbits : noBits s) (hwait : waiting s) :
    phaseInv s := by
  rcases hs with hs | hs | hs | hs <;> simp only [phaseInv, hs]
  case inr.inr.inr =>
    obtain ⟨hidx, hpulse, -⟩ := hbits
    exact ⟨hres, hwait, by rw [hidx]; decide, by omega⟩
  all_goals exact ⟨hres, hbits, hwait⟩

/-- A handshake state goes on waiting or moves on, and no bit is received in it (R233 to R235). -/
theorem stateInv_waitWhile_of_lt {s : State} (h : StateInv s) (hd : s.elapsed < s.cfg.deadlineUs)
    (hs : s.state = .awaitReleaseHigh ∨ s.state = .awaitAckLow ∨ s.state = .awaitAckHigh) (c : FsmState)
    (level l : Bool) {n : FsmState} (hn : n = .awaitAckLow ∨ n = .awaitAckHigh ∨ n = .bitWaitLow) :
    StateInv (waitWhile c level n l s) := by
  obtain ⟨hres, hbits, hwait⟩ : noResult s ∧ noBits s ∧ waiting s := by
    have hphase := h.phase
    rcases hs with hs | hs | hs <;> simpa only [phaseInv, hs] using hphase
  have hwait' := waiting_countTick hwait hd
  rcases waitWhile_cases c level n l s with ⟨hpast, -⟩ | ⟨-, -, heq⟩ | ⟨-, -, heq⟩
  case inl => omega
  case inr.inl =>
    rw [heq]
    exact h.ofSameState (phaseInv_of_noBits (hs.imp_right (Or.imp_right .inl)) hres hbits hwait')
  case inr.inr =>
    have htests : testsDeadline s.state = true := by rcases hs with hs | hs | hs <;> rw [hs] <;> rfl
    rw [heq]
    exact h.ofReceiving htests (by rintro rfl; simp at hn) (by rintro rfl; simp at hn)
      (phaseInv_of_noBits (.inr hn) hres hbits hwait')

/-- BIT_WAIT_LOW waits, or counts the first high sample (R262). -/
theorem stateInv_tickStep_of_bitWaitLow {s : State} (h : StateInv s) (hs : s.state = .bitWaitLow)
    (hd : s.elapsed < s.cfg.deadlineUs) (l : Bool) : StateInv (tickStep s l) := by
  obtain ⟨-, -, -, -, -, -, hcap, -⟩ := configLegal_iff.mp h.legal
  have htests : testsDeadline s.state = true := by rw [hs]; rfl
  have hphase := h.phase
  simp only [phaseInv, hs] at hphase
  obtain ⟨hres, hwait, hidx, hpulse⟩ := hphase
  have hwait' := waiting_countTick hwait hd
  cases l with
  | false =>
    rw [tickStep_bitWaitLow_low hs hd, ← countTick_of_lt hd]
    refine h.ofSameState ?_
    simp only [phaseInv, hs]
    exact ⟨hres, hwait', hidx, hpulse⟩
  | true =>
    rw [countTick_of_lt hd] at hwait'
    rw [tickStep_bitWaitLow_high hs hd]
    exact h.ofReceiving htests nofun nofun ⟨hres, hwait', hidx, le_rfl, hcap⟩

/-- A high sample beyond the cap raises Timeout (R263). -/
theorem tickStep_bitMeasureHigh_cap {s : State} (hs : s.state = .bitMeasureHigh)
    (hd : s.elapsed < s.cfg.deadlineUs) (hcap : s.cfg.pulseCap ≤ s.pulseCnt) :
    tickStep s true = raiseTimeout .bitMeasureHigh (countTick s) := by
  simp only [tickStep, hs]
  exact (if_neg (not_deadlinePassed_of_lt hd)).trans (if_pos (Nat.lt_succ_of_le hcap))

/-- BIT_MEASURE_HIGH counts up to the cap, times out beyond it, or stores the bit (R263). -/
theorem stateInv_tickStep_of_bitMeasureHigh {s : State} (h : StateInv s) (hs : s.state = .bitMeasureHigh)
    (hd : s.elapsed < s.cfg.deadlineUs) (l : Bool) : StateInv (tickStep s l) := by
  have htests : testsDeadline s.state = true := by rw [hs]; rfl
  have hphase := h.phase
  simp only [phaseInv, hs] at hphase
  obtain ⟨hres, hwait, hidx, hpos, hpulse⟩ := hphase
  have hwait' := waiting_countTick hwait hd
  rw [countTick_of_lt hd] at hwait'
  cases l with
  | true =>
    by_cases hcap : s.pulseCnt < s.cfg.pulseCap
    · rw [tickStep_bitMeasureHigh_high hs hd hcap]
      refine h.ofSameState ?_
      simp only [phaseInv, hs]
      exact ⟨hres, hwait', hidx, Nat.succ_pos _, hcap⟩
    · rw [tickStep_bitMeasureHigh_cap hs hd (by omega)]
      exact stateInv_raiseTimeout h htests rfl
  | false =>
    rw [tickStep_bitMeasureHigh_low hs hd]
    by_cases hlast : s.bitIdx + 1 = Config.nbits
    · rw [stateForBit, if_pos hlast]
      exact h.ofReceiving htests nofun nofun ⟨hres, hwait', hlast, hpos, hpulse⟩
    · rw [stateForBit, if_neg hlast]
      exact h.ofReceiving htests nofun nofun ⟨hres, hwait', by simp only; omega, hpulse⟩

/-- CHECKSUM_CHECK ends with the outputs of a good frame, or with none (R310, R315, R353). -/
theorem stateInv_tickStep_of_checksumCheck {s : State} (h : StateInv s) (hs : s.state = .checksumCheck)
    (hd : s.elapsed < s.cfg.deadlineUs) (l : Bool) : StateInv (tickStep s l) := by
  have htests : testsDeadline s.state = true := by rw [hs]; rfl
  have hphase := h.phase
  simp only [phaseInv, hs] at hphase
  obtain ⟨⟨-, -, -, hout⟩, hwait, hidx, -, hpulse⟩ := hphase
  have hwait' := waiting_countTick hwait hd
  rw [tickStep_checksumCheck hs hd]
  by_cases hsum : checksumOk s.buf = true
  case pos =>
    rw [if_pos hsum]
    exact h.ofReceiving htests nofun nofun ⟨rfl, rfl, rfl, hsum, hwait', hidx, hpulse⟩
  case neg =>
    rw [if_neg hsum]
    exact h.ofReceiving htests nofun nofun
      ⟨rfl, rfl, hout, Bool.eq_false_of_not_eq_true hsum, hwait', hidx, hpulse⟩

/-- Every tick keeps the invariant. -/
theorem stateInv_tickStep {s : State} (h : StateInv s) (l : Bool) : StateInv (tickStep s l) := by
  by_cases hpast : testsDeadline s.state = true ∧ s.cfg.deadlineUs ≤ s.elapsed
  case pos =>
    obtain ⟨htests, hd⟩ := hpast
    rw [tickStep_of_deadline htests hd]
    exact stateInv_raiseTimeout h htests htests
  have hd : testsDeadline s.state = true → s.elapsed < s.cfg.deadlineUs := fun ht =>
    Nat.lt_of_not_le fun hle => hpast ⟨ht, hle⟩
  cases hq : s.state
  case startLow => exact stateInv_tickStep_of_startPulse h (.inl hq) l
  case startHigh => exact stateInv_tickStep_of_startPulse h (.inr hq) l
  case awaitReleaseHigh =>
    simp only [tickStep, hq]
    exact stateInv_waitWhile_of_lt h (hd (by rw [hq]; rfl)) (.inl hq) _ _ _ (.inl rfl)
  case awaitAckLow =>
    simp only [tickStep, hq]
    exact stateInv_waitWhile_of_lt h (hd (by rw [hq]; rfl)) (.inr (.inl hq)) _ _ _ (.inr (.inl rfl))
  case awaitAckHigh =>
    simp only [tickStep, hq]
    exact stateInv_waitWhile_of_lt h (hd (by rw [hq]; rfl)) (.inr (.inr hq)) _ _ _ (.inr (.inr rfl))
  case bitWaitLow => exact stateInv_tickStep_of_bitWaitLow h hq (hd (by rw [hq]; rfl)) l
  case bitMeasureHigh => exact stateInv_tickStep_of_bitMeasureHigh h hq (hd (by rw [hq]; rfl)) l
  case checksumCheck => exact stateInv_tickStep_of_checksumCheck h hq (hd (by rw [hq]; rfl)) l
  all_goals
    rw [tickStep_of_not_busy (by rw [busy, hq]; rfl)]
    exact h

end Sys2Proof.Machine

end

/-! ### A step keeps the invariant -/

section

namespace Sys2Proof.Machine

/-- The invariant says nothing of IE, `bus_rdata`, the inputs or the count of cycles. -/
theorem StateInv.withPorts {s : State} (h : StateInv s) {ie : Bool} {rdata : RegWord} {rstIn lineIn : List Bool}
    {hostIn : List HostOp} {cycleNo : Nat} :
    StateInv { s with
      ie := ie, rdata := rdata, rstIn := rstIn, hostIn := hostIn, lineIn := lineIn, cycleNo := cycleNo } :=
  ⟨h.legal, h.syncLength, h.prescaler, h.lineDriven, h.lineLow, h.phase⟩

/-- The prescaler stays within its tick (R49). -/
theorem prescNext_lt {s : State} (h : s.presc < s.cfg.clkPerTick) : prescNext s < s.cfg.clkPerTick := by
  cases ht : isTick s with
  | true => rw [prescNext_of_tick ht]; omega
  | false => rw [prescNext_of_no_tick ht]; have hne := isTick_eq_false_iff.mp ht; omega

/-- What an edge writes besides its tick is sound (R49, R50). -/
theorem stateInv_finishEdge {s s1 : State} (h : StateInv s) (h1 : StateInv s1) (hcfg : s1.cfg = s.cfg) :
    StateInv (finishEdge s s1) where
  legal := h1.legal
  syncLength := by rw [finishEdge_sync, finishEdge_cfg, hcfg]; exact syncNext_length h.syncLength
  prescaler := by rw [finishEdge_presc, finishEdge_cfg, hcfg]; exact prescNext_lt h.prescaler
  lineDriven := h1.lineDriven
  lineLow := h1.lineLow
  phase := h1.phase

theorem stateInv_clockEdge {s : State} (h : StateInv s) : StateInv (clockEdge s) := by
  cases ht : isTick s with
  | true =>
    rw [clockEdge_of_tick ht]
    exact stateInv_finishEdge h (stateInv_tickStep h (lin s)) (tickStep_keepsOutside s (lin s)).cfg
  | false =>
    rw [clockEdge_of_no_tick ht]
    exact stateInv_finishEdge h h rfl

/-- An accepted START begins the exchange with a sound state, whatever ended before it (R154). -/
theorem stateInv_startAccept {s : State} (h : StateInv s) : StateInv (startAccept s) := by
  obtain ⟨hclk, -, hlow, -, -, -, -, -⟩ := configLegal_iff.mp h.legal
  exact ⟨h.legal, h.syncLength, hclk, by simp, by simp,
    ⟨rfl, rfl, rfl, rfl⟩, ⟨rfl, rfl, rfl⟩, rfl, (by decide : 0 < 20000).trans_le hlow⟩

/-- Where the invariant speaks of DONE, it asks it to be clear. -/
theorem phaseInv_clearDone {s : State} (h : phaseInv s) : phaseInv (clearDone s) := by
  cases hq : s.state <;> simp only [phaseInv, clearDone_state, hq] at h ⊢
  case success | timeout | chkerr => exact h
  all_goals
    obtain ⟨⟨hres, -, hfail, hout⟩, hrest⟩ := h
    exact ⟨⟨hres, rfl, hfail, hout⟩, hrest⟩

theorem stateInv_writeEffect {s s1 : State} (h : StateInv s1) (a : BusAddr) (v : RegWord) :
    StateInv (writeEffect s s1 a v) := by
  rcases writeEffect_cases s s1 a v with ⟨-, -, -, heq⟩ | ⟨-, -, heq⟩ | ⟨-, -, -, heq⟩ | ⟨-, -, heq⟩ <;> rw [heq]
  · exact stateInv_startAccept h.withPorts
  · exact h.withPorts
  · exact h.ofSameState (phaseInv_clearDone h.phase)
  · exact h

theorem stateInv_cycle {s : State} (h : StateInv s) (w : Option TxnWord) : StateInv (cycle s w) := by
  cases w with
  | none => exact stateInv_clockEdge h
  | some w =>
    cases hw : txnWrite w with
    | false => rw [cycle_of_read hw]; exact (stateInv_clockEdge h).withPorts
    | true => rw [cycle_of_write hw]; exact stateInv_writeEffect (stateInv_clockEdge h) _ _

theorem stateInv_retire {s : State} (h : StateInv s) (op : HostOp) : StateInv (retire op s) := by
  cases op with
  | txn _ => exact h
  | nop => exact h
  | waitDone =>
    rw [retire]
    split
    · exact h.withPorts
    · exact h

/-- Settles O12: a reset starts from the reset values, and every part of R60's cycle keeps the invariant. -/
theorem stepKeepsTheInvariant : Obligations.StepKeepsTheInvariant := by
  intro s t h hstep
  obtain ⟨hc, ⟨-, rfl⟩ | ⟨-, rfl⟩⟩ := step_cases hstep
  · exact (stateInv_resetWith hc (s.cycleNo + 1)).withPorts
  · exact stateInv_retire (stateInv_cycle h.withPorts _) _

end Sys2Proof.Machine

end

/-! ### Past the deadline -/

section

namespace Sys2Proof.Machine

/-- The FSM states that test the deadline are those with the codes 3 to 8 (R231, R115). -/
theorem testsDeadline_eq_decide (q : FsmState) :
    testsDeadline q = decide (3 ≤ q.code.toNat ∧ q.code.toNat ≤ 8) := by
  cases q
  case rsvd low => revert low; decide
  all_goals rfl

/-- A busy state is one of the start pulse or tests the deadline (R54, R206, R231). -/
theorem startPulse_or_testsDeadline_of_busy {s : State} (h : busy s = true) :
    (s.state = .startLow ∨ s.state = .startHigh) ∨ testsDeadline s.state = true := by
  rw [busy] at h
  cases hq : s.state <;> rw [hq] at h
  case startLow => exact .inl (.inl rfl)
  case startHigh => exact .inl (.inr rfl)
  case awaitReleaseHigh | awaitAckLow | awaitAckHigh | bitWaitLow | bitMeasureHigh | checksumCheck => exact .inr rfl
  all_goals exact nomatch h

/-- What the tick that raises Timeout at the deadline writes (R231, R352): the count stops at `DEADLINE_US + 1`. -/
theorem raiseTimeout_countTick_of_le {s : State} (hd : s.cfg.deadlineUs ≤ s.elapsed) (c : FsmState) :
    raiseTimeout c (countTick s) = { s with
      elapsed := s.cfg.deadlineUs + 1, state := .timeout, result := 2#2, done := true, failState := c.code } := by
  rw [countTick, elapsedNext_of_le hd]; rfl

/-- An exchange in progress has not passed its deadline (R44, R205, R231). -/
theorem StateInv.elapsed_le_of_busy {s : State} (h : StateInv s) (hb : busy s = true) :
    s.elapsed ≤ s.cfg.deadlineUs := by
  rcases startPulse_or_testsDeadline_of_busy hb with hs | hs
  case inl =>
    obtain ⟨-, hlt⟩ := h.counts_of_startPulse hs
    exact hlt.le
  case inr =>
    obtain ⟨-, ⟨-, -, hle⟩, -, -⟩ := receiving_of_phaseInv h.phase hs
    exact hle

/-- Settles O24: the states with the codes 3 to 8 test the deadline before the sample and the frame. -/
theorem deadlineComesFirst : Obligations.DeadlineComesFirst := by
  refine ⟨fun s hd i hi h3 h8 => ?raises, fun s h hb => h.elapsed_le_of_busy hb⟩
  case raises =>
    have htests : testsDeadline s.state = true := by rw [testsDeadline_eq_decide, decide_eq_true_iff]; exact ⟨h3, h8⟩
    have hle : s.cfg.deadlineUs ≤ s.elapsed := Nat.le_of_lt_succ hd
    rw [hi, exec_row_of_code, tickStep_of_deadline htests hle, raiseTimeout_countTick_of_le hle]

end Sys2Proof.Machine

end

/-! ### A tick of the handshake -/

section

namespace Sys2Proof.Machine

/-- The sample of a tick is the last synchroniser stage (R50). -/
theorem lin_of_getElem? {s : State} {l : Bool} (h : s.sync[s.cfg.syncStages - 1]? = some l) : lin s = l := by
  rw [lin, List.getD_eq_getElem?_getD, h, Option.getD_some]

/-- R232's `WaitWhile` in the state it is written for, as one next state on each side of the deadline. -/
theorem waitWhile_eq_ite {s : State} {here : FsmState} (hs : s.state = here) (level : Bool) (next : FsmState)
    (l : Bool) :
    waitWhile here level next l s = if s.elapsed + 1 ≤ s.cfg.deadlineUs
      then { s with elapsed := s.elapsed + 1, state := if l = level then here else next }
      else { s with
        elapsed := s.cfg.deadlineUs + 1, state := .timeout, result := 2#2, done := true, failState := here.code } := by
  rcases waitWhile_cases here level next l s with ⟨hd, h⟩ | ⟨hd, hl, h⟩ | ⟨hd, hl, h⟩ <;> rw [h]
  case inl => rw [if_neg (by omega), raiseTimeout_countTick_of_le hd]
  case inr.inl => rw [if_pos (Nat.succ_le_of_lt hd), if_pos hl, countTick_of_lt hd, ← hs]
  case inr.inr => rw [if_pos (Nat.succ_le_of_lt hd), if_neg hl, countTick_of_lt hd]

theorem exec_awaitReleaseHigh (s : State) :
    exec .awaitReleaseHigh s = .next (waitWhile .awaitReleaseHigh true .awaitAckLow (lin s) s) := rfl
theorem exec_awaitAckLow (s : State) :
    exec .awaitAckLow s = .next (waitWhile .awaitAckLow false .awaitAckHigh (lin s) s) := rfl
theorem exec_awaitAckHigh (s : State) :
    exec .awaitAckHigh s = .next (waitWhile .awaitAckHigh true .bitWaitLow (lin s) s) := rfl

/-- No bit is received before BIT_WAIT_LOW (R235). -/
theorem StateInv.bitIdx_of_awaitAckHigh {s : State} (h : StateInv s) (hs : s.state = .awaitAckHigh) :
    s.bitIdx = 0 := by
  have hphase := h.phase
  simp only [phaseInv, hs] at hphase
  obtain ⟨-, ⟨hidx, -, -⟩, -⟩ := hphase
  exact hidx

/-- Settles O23: each handshake state is one `WaitWhile` (R233 to R235). -/
theorem handshakeTicks : Obligations.HandshakeTicks := by
  intro s l hl
  refine ⟨fun hs => ⟨rfl, ?releaseHigh⟩, fun hs => ⟨rfl, ?ackLow⟩,
    fun hs => ⟨rfl, ?ackHigh, fun h => h.bitIdx_of_awaitAckHigh hs⟩⟩
  case releaseHigh => rw [exec_awaitReleaseHigh, lin_of_getElem? hl, waitWhile_eq_ite hs]; rfl
  case ackLow =>
    have hswap : (if l = false then FsmState.awaitAckLow else .awaitAckHigh) =
        if l then .awaitAckHigh else .awaitAckLow := by cases l <;> rfl
    rw [exec_awaitAckLow, lin_of_getElem? hl, waitWhile_eq_ite hs, hswap]; rfl
  case ackHigh => rw [exec_awaitAckHigh, lin_of_getElem? hl, waitWhile_eq_ite hs]; rfl

end Sys2Proof.Machine

end

/-! ### A tick of the bit loop -/

section

namespace Sys2Proof.Machine

/-- The row of the state register is R61's `TickStep` with the sample that R50 gives the tick. -/
theorem exec_instrOfState_of_sample {s : State} {l : Bool} (hl : s.sync[s.cfg.syncStages - 1]? = some l) :
    exec (instrOfState s.state) s = .next (tickStep s l) := by
  rw [exec_instrOfState, lin_of_getElem? hl]

theorem exec_bitWaitLow {s : State} {l : Bool} (hs : s.state = .bitWaitLow)
    (hl : s.sync[s.cfg.syncStages - 1]? = some l) : exec .bitWaitLow s = .next (tickStep s l) := by
  rw [← exec_instrOfState_of_sample hl, hs, instrOfState]

theorem exec_bitMeasureHigh {s : State} {l : Bool} (hs : s.state = .bitMeasureHigh)
    (hl : s.sync[s.cfg.syncStages - 1]? = some l) : exec .bitMeasureHigh s = .next (tickStep s l) := by
  rw [← exec_instrOfState_of_sample hl, hs, instrOfState]

/-- What a tick past the deadline writes in the FSM states that test it (R231, R352). -/
theorem tickStep_of_deadline_eq {s : State} (hs : testsDeadline s.state = true) (hd : s.cfg.deadlineUs < s.elapsed + 1)
    (l : Bool) : tickStep s l = { s with
      elapsed := s.cfg.deadlineUs + 1, state := .timeout, result := 2#2, done := true, failState := s.state.code } := by
  rw [tickStep_of_deadline hs (Nat.le_of_lt_succ hd), raiseTimeout_countTick_of_le (Nat.le_of_lt_succ hd)]

/-- What the high sample beyond the cap writes (R263, R352): it is not counted in `pulse_cnt`. -/
theorem tickStep_bitMeasureHigh_cap_eq {s : State} (hs : s.state = .bitMeasureHigh)
    (hd : s.elapsed < s.cfg.deadlineUs) (hcap : s.cfg.pulseCap ≤ s.pulseCnt) :
    tickStep s true = { s with
      elapsed := s.elapsed + 1, state := .timeout, result := 2#2, done := true, failState := 7#4 } := by
  rw [tickStep_bitMeasureHigh_cap hs hd hcap, countTick_of_lt hd]; rfl

/-- Bit 39 is the last (R263). -/
theorem stateForBit_succ (i : Nat) : stateForBit (i + 1) = if i = 39 then .checksumCheck else .bitWaitLow :=
  if_congr Nat.succ_inj rfl rfl

/-- Settles O25: the deadline is tested first, then the sample decides (R262). -/
theorem bitWaitLowTick : Obligations.BitWaitLowTick := by
  refine ⟨rfl, fun s l hs hl => ?_⟩
  rw [exec_bitWaitLow hs hl]
  refine ⟨fun hd => ?late, ?low, ?high⟩
  case late => rw [tickStep_of_deadline_eq (by rw [hs]; rfl) hd, hs]; rfl
  case low => rintro ⟨hd, rfl⟩; rw [tickStep_bitWaitLow_low hs hd]
  case high => rintro ⟨hd, rfl⟩; rw [tickStep_bitWaitLow_high hs hd]

/-- Settles O26: the deadline is tested first, then the sample and, for a high one, the cap decide (R263, R355). -/
theorem bitMeasureHighTick : Obligations.BitMeasureHighTick := by
  refine ⟨rfl, fun s l hs hl => ?_⟩
  rw [exec_bitMeasureHigh hs hl]
  refine ⟨fun hd => ?late, fun hd => ⟨?counted, ?beyondCap, ?bit⟩⟩
  case late => rw [tickStep_of_deadline_eq (by rw [hs]; rfl) hd, hs]; rfl
  case counted => rintro ⟨rfl, hcap⟩; rw [tickStep_bitMeasureHigh_high hs hd hcap]
  case beyondCap => rintro ⟨rfl, hcap⟩; rw [tickStep_bitMeasureHigh_cap_eq hs hd (Nat.le_of_lt_succ hcap)]
  case bit => rintro rfl; rw [tickStep_bitMeasureHigh_low hs hd, stateForBit_succ]; rfl

end Sys2Proof.Machine

end

/-! ### A high pulse up to the cap and beyond it -/

section

namespace Sys2Proof.Machine

/-- Outside an exchange no run of samples changes anything (R202, R315 to R317, R116). -/
theorem runTicks_of_not_busy {s : State} (h : busy s = false) (samples : List Bool) : runTicks samples s = s := by
  induction samples with
  | nil => rfl
  | cons l ls ih => rw [runTicks_cons, tickStep_of_not_busy h, ih]

/-- The high samples of a pulse up to the cap are counted, the first one too (R262, R263). -/
theorem runTicks_highSamples {s : State} {n : Nat} (hs : s.state = .bitWaitLow) (hn : 1 ≤ n)
    (hcap : n ≤ s.cfg.pulseCap) (h : s.elapsed + n ≤ s.cfg.deadlineUs) :
    runTicks (List.replicate n true) s = { s with
      elapsed := s.elapsed + n, pulseCnt := n, state := .bitMeasureHigh } := by
  obtain ⟨n, rfl⟩ := Nat.exists_eq_add_of_le' hn
  rw [List.replicate_succ, runTicks_cons, tickStep_bitWaitLow_high hs (by omega),
    runTicks_high n rfl (by simp only; omega) (by simp only; omega)]
  simp only [Nat.add_assoc, Nat.add_comm 1 n]

/-- High sample `PULSE_CAP + 1` ends the exchange in TIMEOUT (R264). -/
theorem runTicks_pulseBeyondCap {s : State} (hs : s.state = .bitWaitLow) (hcap : 1 ≤ s.cfg.pulseCap)
    (h : s.elapsed + s.cfg.pulseCap + 1 ≤ s.cfg.deadlineUs) :
    runTicks (List.replicate (s.cfg.pulseCap + 1) true) s = { s with
      elapsed := s.elapsed + s.cfg.pulseCap + 1, pulseCnt := s.cfg.pulseCap, state := .timeout, result := 2#2,
      done := true, failState := 7#4 } := by
  rw [List.replicate_succ', runTicks_append, runTicks_highSamples hs hcap le_rfl (by omega), runTicks_cons,
    runTicks_nil, tickStep_bitMeasureHigh_cap_eq rfl (by exact h) le_rfl]

/-- Settles O39: up to the cap by `runTicks_highPulse`; beyond it the samples are split after high sample
`PULSE_CAP + 1`, and the rest meets TIMEOUT. -/
theorem highPulseIsMeasured : Obligations.HighPulseIsMeasured := by
  refine fun s h hs hpos => ⟨fun hcap hd => ?measured, fun hlong hcap hd rest => ?timeout⟩
  case measured => rw [runTicks_highPulse hs hpos hcap hd, stateForBit_succ]; rfl
  case timeout =>
    obtain ⟨extra, rfl⟩ := Nat.exists_eq_add_of_lt hlong
    rw [Nat.add_right_comm, List.replicate_add, List.append_assoc, runTicks_append, runTicks_pulseBeyondCap hs hcap hd,
      runTicks_of_not_busy rfl]

end Sys2Proof.Machine

end

/-! ### The bits of each byte after an assembled bit, and the 40 bits in order -/

section

namespace Sys2Proof.Machine

/-- The buffer's byte `k`, the place that `Frame.orByte` writes. -/
def Frame.byte (f : Frame) (k : Nat) : Byte :=
  match k with
  | 0 => f.b0
  | 1 => f.b1
  | 2 => f.b2
  | 3 => f.b3
  | 4 => f.b4
  | _ => 0#8

/-- Setting bits in byte `k` keeps every other byte. -/
theorem Frame.byte_orByte (f : Frame) {k : Nat} (hk : k < Config.nbytes) (m : Byte) (j : Nat) :
    (f.orByte k m).byte j = if k = j then f.byte j ||| m else f.byte j := by
  match k, hk with
  | 0, _ | 1, _ | 2, _ | 3, _ | 4, _ =>
    match j with
    | 0 | 1 | 2 | 3 | 4 | _ + 5 => rfl

/-- The mask of `assemble` has the one bit `7 - i mod 8` (R290). -/
theorem getLsbD_assembleMask (i pos : Nat) :
    (1#8 <<< (7 - i % 8)).getLsbD pos = decide (pos = 7 - i % 8) := by
  rw [← BitVec.twoPow_eq, BitVec.getLsbD_twoPow, decide_eq_true (by omega), Bool.true_and]
  exact decide_eq_decide.mpr eq_comm

/-- Bit `pos` of byte `k` after `Assemble(i, b)` (R290, R291). -/
theorem getLsbD_byte_assemble (f : Frame) {i : Nat} (hi : i < Config.nbits) (b : Bool) (k pos : Nat) :
    ((assemble f i b).byte k).getLsbD pos =
      ((f.byte k).getLsbD pos || (b && decide (i / 8 = k ∧ pos = 7 - i % 8))) := by
  cases b with
  | false => rw [Bool.false_and, Bool.or_false]; rfl
  | true =>
    have hbyte : i / 8 < Config.nbytes := by simp only [Config.nbits, Config.nbytes] at hi ⊢; omega
    rw [assemble, if_pos rfl, Frame.byte_orByte f hbyte, Bool.true_and]
    by_cases hk : i / 8 = k
    case pos => rw [if_pos hk, BitVec.getLsbD_or, getLsbD_assembleMask]; simp only [hk, true_and]
    case neg => simp only [hk, if_false, false_and, decide_false, Bool.or_false]

/-- Settles O27: each byte's bits are read by `getLsbD_byte_assemble`. -/
theorem assembleSetsOneBit : Obligations.AssembleSetsOneBit := by
  intro f i b hi pos _
  have hbit (k : Nat) := getLsbD_byte_assemble f hi b k pos
  exact ⟨hbit 0, hbit 1, hbit 2, hbit 3, hbit 4⟩

/-- Settles O40: every further bit is the next digit (`number_assembleBits`), from the clear buffer on. -/
theorem bitsArePackedMsbFirst : Obligations.BitsArePackedMsbFirst :=
  fun _ hlen => number_assembleBits_zero hlen

end Sys2Proof.Machine

end

/-! ### A tick of CHECKSUM_CHECK -/

section

namespace Sys2Proof.Machine

theorem exec_checksumCheck {s : State} (hs : s.state = .checksumCheck) :
    exec .checksumCheck s = .next (tickStep s (lin s)) := by
  rw [← exec_instrOfState, hs, instrOfState]

/-- What the tick that accepts the frame writes (R310, R315). -/
theorem tickStep_checksumCheck_good {s : State} (hs : s.state = .checksumCheck) (hd : s.elapsed < s.cfg.deadlineUs)
    (hsum : checksumOk s.buf = true) (l : Bool) : tickStep s l = { s with
      elapsed := s.elapsed + 1, state := .success, out := s.buf, result := 1#2, done := true, failState := 0#4 } := by
  rw [tickStep_checksumCheck hs hd, if_pos hsum, countTick_of_lt hd]; rfl

/-- What the tick that rejects the frame writes (R310, R353): the outputs are not among it. -/
theorem tickStep_checksumCheck_bad {s : State} (hs : s.state = .checksumCheck) (hd : s.elapsed < s.cfg.deadlineUs)
    (hsum : ¬ checksumOk s.buf = true) (l : Bool) : tickStep s l = { s with
      elapsed := s.elapsed + 1, state := .chkerr, result := 3#2, done := true, failState := 8#4 } := by
  rw [tickStep_checksumCheck hs hd, if_neg hsum, countTick_of_lt hd]; rfl

/-- Settles O28: the deadline is tested first, then the checksum decides (R310, R312, R353). -/
theorem checksumCheckTick : Obligations.ChecksumCheckTick := by
  refine ⟨rfl, fun s hs => ?_⟩
  rw [exec_checksumCheck hs]
  refine ⟨fun hd => ?late, fun hd => ⟨fun hsum => ?good, fun hsum => ?bad⟩⟩
  case late => rw [tickStep_of_deadline_eq (by rw [hs]; rfl) hd, hs]; rfl
  case good => rw [tickStep_checksumCheck_good hs hd (checksumOk_iff.mpr hsum)]
  case bad => rw [tickStep_checksumCheck_bad hs hd (mt checksumOk_iff.mp hsum)]

end Sys2Proof.Machine

end

/-! ### What writes the output registers -/

section

namespace Sys2Proof.Machine

theorem waitWhile_out (c : FsmState) (level : Bool) (n : FsmState) (l : Bool) (s : State) :
    (waitWhile c level n l s).out = s.out := by
  rcases waitWhile_cases c level n l s with ⟨_, h⟩ | ⟨_, _, h⟩ | ⟨_, _, h⟩ <;> rw [h] <;> rfl

/-- No tick before CHECKSUM_CHECK writes the outputs, and none outside an exchange (R324). -/
theorem tickStep_out_of_ne_checksumCheck {s : State} (hs : s.state ≠ .checksumCheck) (l : Bool) :
    (tickStep s l).out = s.out := by
  unfold tickStep
  split
  case h_2 => unfold tickStartLow; dsimp only; split <;> rfl
  case h_3 => unfold tickStartHigh; dsimp only; split <;> rfl
  case h_4 | h_5 | h_6 => exact waitWhile_out ..
  case h_7 => unfold tickBitWaitLow; dsimp only; (repeat' split) <;> rfl
  case h_8 => unfold tickBitMeasureHigh; dsimp only; (repeat' split) <;> rfl
  case h_9 hcheck => exact absurd hcheck hs
  all_goals rfl

/-- `t` shows the frame that `s` had received and found good: the entry to SUCCESS (R315, R324). -/
structure ShowsGoodFrame (s t : State) : Prop where
  checked : s.state = .checksumCheck
  entered : t.state = .success
  out : t.out = s.buf
  good : checksumOk s.buf = true

theorem tickStep_out_cases (s : State) (l : Bool) :
    (tickStep s l).out = s.out ∨ ShowsGoodFrame s (tickStep s l) := by
  by_cases hs : s.state = .checksumCheck
  case neg => exact .inl (tickStep_out_of_ne_checksumCheck hs l)
  rcases Nat.lt_or_ge s.elapsed s.cfg.deadlineUs with hd | hd
  case inr => exact .inl (by rw [tickStep_of_deadline_eq (by rw [hs]; rfl) (Nat.lt_succ_of_le hd)])
  by_cases hsum : checksumOk s.buf = true
  case pos => rw [tickStep_checksumCheck_good hs hd hsum]; exact .inr ⟨hs, rfl, rfl, hsum⟩
  case neg => exact .inl (by rw [tickStep_checksumCheck_bad hs hd hsum])

theorem clockEdge_out_cases (s : State) :
    (clockEdge s).out = s.out ∨ ShowsGoodFrame s (clockEdge s) := by
  cases ht : isTick s with
  | false => exact .inl (by rw [clockEdge_of_no_tick ht, finishEdge_out])
  | true =>
    rw [clockEdge_of_tick ht]
    exact (tickStep_out_cases s (lin s)).imp id fun ⟨hs, ht, hout, hsum⟩ => ⟨hs, ht, hout, hsum⟩

/-- A transaction leaves the outputs and the FSM state as the edge has them, or is an accepted START (R151 to R155). -/
theorem cycle_out_cases (s : State) (w : Option TxnWord) :
    ((cycle s w).out = (clockEdge s).out ∧ (cycle s w).state = (clockEdge s).state)
    ∨ ((cycle s w).out = Frame.zero ∧ (cycle s w).state = .startLow) := by
  cases w with
  | none => exact .inl ⟨rfl, rfl⟩
  | some w =>
    cases hw : txnWrite w with
    | false => rw [cycle_of_read hw]; exact .inl ⟨rfl, rfl⟩
    | true =>
      rw [cycle_of_write hw]
      rcases writeEffect_cases s (clockEdge s) (txnAddr w) (txnData w) with
        ⟨_, _, _, h⟩ | ⟨_, _, h⟩ | ⟨_, _, _, h⟩ | ⟨_, _, h⟩ <;> rw [h]
      case inl => exact .inr ⟨rfl, rfl⟩
      all_goals exact .inl ⟨rfl, rfl⟩

@[simp] theorem retire_out (op : HostOp) (s : State) : (retire op s).out = s.out := by
  cases op with
  | txn _ => rfl
  | nop => rfl
  | waitDone => rw [retire]; split <;> rfl

/-- Settles O33: reset and START clear the outputs, and of the rest of a cycle only its tick can write them. -/
theorem outputsComeOnlyFromAGoodFrame : Obligations.OutputsComeOnlyFromAGoodFrame := by
  intro s t hstep hne
  obtain ⟨-, ⟨-, rfl⟩ | ⟨-, rfl⟩⟩ := step_cases hstep
  case inl => exact .inl ⟨rfl, .inr rfl⟩
  rw [retire_out] at hne ⊢
  rw [retire_state]
  rcases cycle_out_cases (takeInputs s) (issuedTxn s) with ⟨hout, hstate⟩ | ⟨hout, hstate⟩ <;>
    rw [hout] at hne ⊢ <;> rw [hstate]
  case inr => exact .inl ⟨rfl, .inl rfl⟩
  obtain ⟨hcheck, hsucc, hbuf, hsum⟩ := (clockEdge_out_cases (takeInputs s)).resolve_left hne
  exact .inr ⟨hcheck, hsucc, hbuf, checksumOk_iff.mp hsum⟩

end Sys2Proof.Machine

end

/-! ### The nearest binary32 -/

section

namespace Sys2Proof.Machine

/-- Rounding a quotient is off by at most half the divisor. -/
theorem divNearestEven_near (n : Nat) {d : Nat} (hd : 0 < d) :
    2 * (d * divNearestEven n d) ≤ 2 * n + d ∧ 2 * n ≤ 2 * (d * divNearestEven n d) + d := by
  have hdiv := Nat.div_add_mod n d
  have hrem := Nat.mod_lt n hd
  simp only [divNearestEven]
  split
  case isTrue hup => rw [Nat.mul_succ]; omega
  case isFalse hdown => omega

/-- Rounding a quotient gives its floor or the next number. -/
theorem divNearestEven_mem (n d : Nat) : n / d ≤ divNearestEven n d ∧ divNearestEven n d ≤ n / d + 1 := by
  simp only [divNearestEven]
  split <;> omega

/-- A number of more than 23 bits, cut to its first 24. -/
theorem div_two_pow_log2_sub {q : Nat} (h : 23 ≤ Nat.log2 q) :
    2 ^ 23 ≤ q / 2 ^ (Nat.log2 q - 23) ∧ q / 2 ^ (Nat.log2 q - 23) < 2 ^ 24 := by
  have hq : q ≠ 0 := by rintro rfl; exact absurd h (by decide)
  have hunit : 0 < 2 ^ (Nat.log2 q - 23) := Nat.two_pow_pos _
  rw [Nat.le_div_iff_mul_le hunit, Nat.div_lt_iff_lt_mul hunit, ← Nat.pow_add, ← Nat.pow_add,
    show 23 + (q.log2 - 23) = q.log2 by omega, show 24 + (q.log2 - 23) = q.log2 + 1 by omega]
  exact ⟨Nat.log2_self_le hq, Nat.lt_log2_self⟩

/-- The rounded significand `c`, in units of `2^(shift - 149)`, as the fields of a normal number: a carry to `2^24` is
`2^23` of the next exponent. -/
theorem exists_normal_fields {shift c : Nat} (hshift : shift ≤ 252) (hlo : 2 ^ 23 ≤ c) (hhi : c ≤ 2 ^ 24) :
    ∃ e m, min (shift * 2 ^ 23 + c) 0x7F800000 = e * 2 ^ 23 + (m - 2 ^ 23) ∧ shift + 1 ≤ e ∧ e ≤ 254
      ∧ 2 ^ 23 ≤ m ∧ m < 2 ^ 24 ∧ m * 2 ^ e = 2 * (c * 2 ^ shift) := by
  by_cases hcarry : c < 2 ^ 24
  case pos => exact ⟨shift + 1, c, by omega, le_rfl, by omega, hlo, hcarry, by ring⟩
  case neg =>
    have hc : c = 2 ^ 24 := by omega
    exact ⟨shift + 2, 2 ^ 23, by omega, by omega, by omega, le_rfl, by decide, by rw [hc]; ring⟩

/-- `fields` encodes the normal binary32 `m * 2^(e - 150)`, `m` of 24 bits, and that is within half a unit in the last
place of `scaled / (den * 2^149)`. -/
structure EncodesNearest (fields scaled den e m : Nat) : Prop where
  encodes : fields = e * 2 ^ 23 + (m - 2 ^ 23)
  exponentPos : 1 ≤ e
  exponentLe : e ≤ 254
  normal : 2 ^ 23 ≤ m
  significandLt : m < 2 ^ 24
  notAbove : 2 * (den * m * 2 ^ e) ≤ 4 * scaled + den * 2 ^ e
  notBelow : 4 * scaled ≤ 2 * (den * m * 2 ^ e) + den * 2 ^ e

/-- Rounding to 24 bits of significand gives the fields of a nearest normal number. -/
theorem exists_encodesNearest {scaled den shift : Nat} (hden : 0 < den) (hshift : shift ≤ 252)
    (hlo : 2 ^ 23 ≤ scaled / (den * 2 ^ shift)) (hhi : scaled / (den * 2 ^ shift) < 2 ^ 24) :
    ∃ e m, EncodesNearest (min (shift * 2 ^ 23 + divNearestEven scaled (den * 2 ^ shift)) 0x7F800000)
      scaled den e m := by
  obtain ⟨hfloor, hceil⟩ := divNearestEven_mem scaled (den * 2 ^ shift)
  obtain ⟨habove, hbelow⟩ := divNearestEven_near scaled (Nat.mul_pos hden (Nat.two_pow_pos shift))
  obtain ⟨e, m, hfields, hpos, hmax, hnormal, hm, hvalue⟩ :=
    exists_normal_fields hshift (hlo.trans hfloor) (hceil.trans hhi)
  have hexact : den * m * 2 ^ e = 2 * (den * 2 ^ shift * divNearestEven scaled (den * 2 ^ shift)) := by
    rw [Nat.mul_assoc, hvalue]; ring
  have hulp : 2 * (den * 2 ^ shift) ≤ den * 2 ^ e := by
    calc 2 * (den * 2 ^ shift) = den * 2 ^ (shift + 1) := by ring
      _ ≤ den * 2 ^ e := Nat.mul_le_mul_left den (Nat.pow_le_pow_right (by decide) hpos)
  refine ⟨e, m, hfields, Nat.one_le_of_lt hpos, hmax, hnormal, hm, ?_, ?_⟩
  · rw [hexact]; linarith only [habove, hulp]
  · rw [hexact]; linarith only [hbelow, hulp]

/-- `RNE_f32` is the nearest normal number, for a quotient in their range. -/
theorem exists_encodesNearest_rneF32 (num : Nat) {den : Nat} (hden : 0 < den)
    (hlo : 23 ≤ Nat.log2 (num * 2 ^ 149 / den)) (hhi : Nat.log2 (num * 2 ^ 149 / den) ≤ 275) :
    ∃ fields e m, rneF32 num den = BitVec.ofNat 32 fields ∧ EncodesNearest fields (num * 2 ^ 149) den e m := by
  obtain ⟨hc23, hc24⟩ := div_two_pow_log2_sub hlo
  rw [Nat.div_div_eq_div_mul] at hc23 hc24
  obtain ⟨e, m, h⟩ := exists_encodesNearest hden (Nat.sub_le_sub_right hhi 23) hc23 hc24
  exact ⟨_, e, m, rfl, h⟩

theorem rneF32_zero (den : Nat) : rneF32 0 den = 0#32 := by
  simp [rneF32, divNearestEven]

/-- `RNE_f32` leaves the sign bit clear. -/
theorem rneF32_getLsbD_sign (num den : Nat) : (rneF32 num den).getLsbD 31 = false := by
  rw [rneF32, BitVec.getLsbD_ofNat, Nat.testBit_lt_two_pow (by omega), Bool.and_false]

end Sys2Proof.Machine

end

/-! ### The frame's tenths as f32 values -/

section

namespace Sys2Proof.Machine

theorem toNat_hum10 (f : Frame) : (hum10 f).toNat = 256 * f.b0.toNat + f.b1.toNat := by
  rw [hum10, toNat_append_eq_add]; omega

/-- Tenths of 16 bits are far inside the range of the normal numbers. -/
theorem log2_tenths_bounds {x : Nat} (hpos : x ≠ 0) (hlt : x < 2 ^ 16) :
    23 ≤ Nat.log2 (x * 2 ^ 149 / 10) ∧ Nat.log2 (x * 2 ^ 149 / 10) ≤ 275 := by
  have hq : x * 2 ^ 149 / 10 ≠ 0 := by omega
  have hlo : 2 ^ 23 ≤ x * 2 ^ 149 / 10 := by omega
  have hhi : x * 2 ^ 149 / 10 < 2 ^ 165 := by omega
  exact ⟨(Nat.le_log2 hq).mpr hlo, ((Nat.log2_lt hq).mpr hhi).le.trans (by decide)⟩

/-- The temperature is its magnitude's value with the sign flag as sign bit (R325). -/
theorem temperatureF32_eq_xor (f : Frame) :
    temperatureF32 f = rneF32 (tempMag10 f).toNat 10 ^^^ (if tempNeg f then 0x80000000#32 else 0#32) := by
  rw [temperatureF32]
  split
  · rfl
  · rw [BitVec.xor_zero]

theorem temperatureF32_sign (f : Frame) : (temperatureF32 f).getLsbD 31 = tempNeg f := by
  rw [temperatureF32_eq_xor, BitVec.getLsbD_xor, rneF32_getLsbD_sign, Bool.false_xor]
  cases tempNeg f <;> rfl

theorem temperatureF32_magnitude (f : Frame) :
    (temperatureF32 f).extractLsb' 0 31 = (rneF32 (tempMag10 f).toNat 10).extractLsb' 0 31 := by
  have hmask : (if tempNeg f then 0x80000000#32 else 0#32).extractLsb' 0 31 = 0#31 := by cases tempNeg f <;> rfl
  rw [temperatureF32_eq_xor, BitVec.extractLsb'_xor, hmask, BitVec.xor_zero]

/-- Settles O42: nonzero tenths are rounded to a normal number; the temperature's magnitude is a humidity's tenths. -/
theorem tenthsAsNearestBinary32 : Obligations.TenthsAsNearestBinary32 := by
  intro f
  refine ⟨(hum10 f).toNat, toNat_hum10 f, fun hzero => ?zero, fun hne => ?nearest, temperatureF32_sign f,
    fun g hhigh hlow => ?magnitude⟩
  case zero => rw [humidityF32, hzero, rneF32_zero]
  case nearest =>
    obtain ⟨hlo, hhi⟩ := log2_tenths_bounds hne (hum10 f).isLt
    obtain ⟨fields, e, m, hbits, hfields, hpos, hmax, hnormal, hm, habove, hbelow⟩ :=
      exists_encodesNearest_rneF32 (hum10 f).toNat (by decide : 0 < 10) hlo hhi
    have hscaled : 2 * ((hum10 f).toNat * 2 ^ 150) = 4 * ((hum10 f).toNat * 2 ^ 149) := by ring
    rw [humidityF32, hbits, hfields, hscaled]
    exact ⟨e, m, rfl, hpos, hmax, hnormal, hm, habove, hbelow⟩
  case magnitude => rw [temperatureF32_magnitude, humidityF32, hum10, hhigh, hlow, tempMag10]

end Sys2Proof.Machine

end

/-! ### A terminal state is left only by an accepted START -/

section

namespace Sys2Proof.Machine

/-- What an exchange leaves for the host to read and on the line, DONE aside: the part of a terminal state that only a
START or a reset may change (R315 to R317, R358). -/
def shownOutcome (s : State) : FsmState × BitVec 2 × BitVec 4 × Nat × Frame × Frame × Nat × Bool :=
  (s.state, s.result, s.failState, s.bitIdx, s.out, s.buf, s.elapsed, s.lineOe)

/-- Outside an exchange a clock edge leaves the outcome as it is, whether it is a tick or not. -/
theorem clockEdge_shownOutcome {s : State} (hb : busy s = false) : shownOutcome (clockEdge s) = shownOutcome s := by
  rw [clockEdge, tickStep_of_not_busy hb, ite_self]; rfl

/-- Outside an exchange a transaction leaves the outcome as it is, or is an accepted START (R151 to R155). -/
theorem cycle_shownOutcome_or_start {s : State} (hb : busy s = false) (w : Option TxnWord) :
    shownOutcome (cycle s w) = shownOutcome s
    ∨ ∃ t, w = some t ∧ txnWrite t = true ∧ (addrSlot (txnAddr t)).toNat = 0 ∧ startOperand (txnData t) = true
      ∧ cycle s w = startAccept (setIe (ieOperand (txnData t)) (clockEdge s)) := by
  have hedge := clockEdge_shownOutcome hb
  cases w with
  | none => exact .inl hedge
  | some t =>
    cases hw : txnWrite t with
    | false => rw [cycle_of_read hw]; exact .inl hedge
    | true =>
      rw [cycle_of_write hw]
      rcases writeEffect_cases s (clockEdge s) (txnAddr t) (txnData t) with
        ⟨hslot, hst, -, h⟩ | ⟨-, -, h⟩ | ⟨-, -, -, h⟩ | ⟨-, -, h⟩ <;> rw [h]
      case inl => exact .inr ⟨t, rfl, hw, hslot, hst, rfl⟩
      all_goals exact .inl hedge

/-- Retiring a WAITDONE writes the host's program alone (R141). -/
theorem retire_eq (op : HostOp) (s : State) : ∃ rest, retire op s = { s with hostIn := rest } := by
  cases op with
  | txn _ => exact ⟨s.hostIn, rfl⟩
  | nop => exact ⟨s.hostIn, rfl⟩
  | waitDone => rw [retire]; split <;> exact ⟨_, rfl⟩

theorem retire_shownOutcome (op : HostOp) (s : State) : shownOutcome (retire op s) = shownOutcome s := by
  obtain ⟨rest, h⟩ := retire_eq op s
  rw [h]; rfl

/-- A write is the host's own statement, never the read that a WAITDONE issues (R141). -/
theorem hostNow_of_issued_write {s : State} {w : TxnWord} (h : issuedTxn s = some w) (hw : txnWrite w = true) :
    hostNow s = .txn w := by
  rw [issuedTxn] at h
  cases hnow : hostNow s <;> rw [hnow] at h <;> cases h
  case txn => rfl
  case waitDone => exact absurd hw (by decide)

theorem hostIn_of_hostNow_txn {s : State} {w : TxnWord} (h : hostNow s = .txn w) :
    ∃ rest, s.hostIn = .txn w :: rest := by
  cases hin : s.hostIn with
  | nil => exact nomatch (hostNow_of_nil hin).symm.trans h
  | cons op rest => exact ⟨rest, by rw [← h, hostNow_of_cons hin]⟩

/-- The slot of a transaction word is its bits 39 to 34 (R110). -/
theorem addrSlot_txnAddr (w : TxnWord) : addrSlot (txnAddr w) = w.extractLsb' 34 6 := by
  apply BitVec.eq_of_getLsbD_eq
  intro i hi
  simp only [addrSlot, txnAddr, BitVec.getLsbD_extractLsb', hi, show 2 + i < 8 by omega,
    show 32 + (2 + i) = 34 + i by omega, decide_true, Bool.true_and]

theorem startOperand_txnData (w : TxnWord) : startOperand (txnData w) = w.getLsbD 0 := by
  rw [startOperand, txnData, BitVec.getLsbD_extractLsb']; rfl

/-- Settles O31: a terminal state is not busy, so of a cycle only an accepted START can change what it shows. -/
theorem onlyStartLeavesATerminalState : Obligations.OnlyStartLeavesATerminalState := by
  intro s t hterminal hrst hstep
  have hb : busy (takeInputs s) = false := by
    rw [busy, takeInputs_state]
    rcases hterminal with hs | hs | hs <;> rw [hs] <;> rfl
  obtain ⟨-, ⟨hr, -⟩ | ⟨-, rfl⟩⟩ := step_cases hstep
  case inl => exact absurd (head?_rstIn_of_rstNow hr) hrst
  rcases cycle_shownOutcome_or_start hb (issuedTxn s) with hkept | ⟨w, hissued, hw, hslot, hst, hcycle⟩
  case inl =>
    have hshown : shownOutcome (retire (hostNow s) _) = shownOutcome s :=
      (retire_shownOutcome (hostNow s) _).trans hkept
    exact .inl (by simpa only [shownOutcome, Prod.mk.injEq] using hshown)
  case inr =>
    have hnow := hostNow_of_issued_write hissued hw
    obtain ⟨rest, hin⟩ := hostIn_of_hostNow_txn hnow
    have hslot0 : w.extractLsb' 34 6 = 0#6 := by
      rw [← addrSlot_txnAddr]; exact BitVec.eq_of_toNat_eq hslot
    rw [startOperand_txnData] at hst
    rw [hcycle, retire_of_ne_waitDone (by rw [hnow]; exact nofun)]
    exact .inr ⟨w, rest, hin, hw, hslot0, hst, rfl, rfl, rfl, rfl⟩

end Sys2Proof.Machine

end

/-! ### The end of an exchange: DONE in a terminal state -/

section

namespace Sys2Proof.Machine

/-- A terminal state with DONE set, as a tick that ends an exchange leaves it (R315, R352, R353). -/
structure Ended (s : State) : Prop where
  terminal : s.state = .success ∨ s.state = .timeout ∨ s.state = .chkerr
  done : s.done = true

/-- A tick in an exchange counts itself, and the exchange goes on or ends with DONE (R61, R359). -/
structure CountsAndProgresses (s t : State) : Prop where
  elapsed : t.elapsed = elapsedNext s
  goesOnOrEnds : busy t = true ∨ Ended t

/-- Going on and having ended are facts about the FSM state and DONE alone. -/
theorem busy_or_ended_congr {s t : State} (h : busy s = true ∨ Ended s) (hstate : t.state = s.state)
    (hdone : t.done = s.done) : busy t = true ∨ Ended t := by
  rcases h with hb | ⟨hterminal, hset⟩
  · exact .inl (by rw [busy, hstate]; exact hb)
  · exact .inr ⟨by rw [hstate]; exact hterminal, hdone.trans hset⟩

theorem countsAndProgresses_raiseTimeout (c : FsmState) (s : State) :
    CountsAndProgresses s (raiseTimeout c (countTick s)) :=
  ⟨rfl, .inr ⟨.inr (.inl rfl), rfl⟩⟩

/-- The start pulse goes on: its last tick leads to the handshake (R203, R204). -/
theorem countsAndProgresses_of_startPulse {s : State} (hs : s.state = .startLow ∨ s.state = .startHigh) (l : Bool) :
    CountsAndProgresses s (tickStep s l) := by
  by_cases hlast : s.phaseCnt + 1 = startPhaseTicks s.cfg s.state
  case pos =>
    rw [tickStep_of_startPulse_last hs hlast]
    refine ⟨endStartPhase_elapsed _, .inl ?_⟩
    rcases endStartPhase_state_cases (s := countTick s) hs with hq | hq <;> rw [busy, hq] <;> rfl
  case neg =>
    rw [tickStep_of_startPulse_inside hs hlast]
    refine ⟨rfl, .inl ?_⟩
    rcases hs with hs | hs <;> exact congrArg busyState hs

theorem countsAndProgresses_waitWhile {s : State} (hb : busy s = true) (c : FsmState) (level : Bool) {n : FsmState}
    (hn : busyState n = true) (l : Bool) : CountsAndProgresses s (waitWhile c level n l s) := by
  rcases waitWhile_cases c level n l s with ⟨-, h⟩ | ⟨-, -, h⟩ | ⟨-, -, h⟩ <;> rw [h]
  · exact countsAndProgresses_raiseTimeout c s
  · exact ⟨rfl, .inl hb⟩
  · exact ⟨rfl, .inl hn⟩

theorem countsAndProgresses_of_bitWaitLow {s : State} (hs : s.state = .bitWaitLow)
    (hd : s.elapsed < s.cfg.deadlineUs) (l : Bool) : CountsAndProgresses s (tickStep s l) := by
  cases l with
  | false =>
    rw [tickStep_bitWaitLow_low hs hd]
    exact ⟨(elapsedNext_of_lt hd).symm, .inl (congrArg busyState hs)⟩
  | true =>
    rw [tickStep_bitWaitLow_high hs hd]
    exact ⟨(elapsedNext_of_lt hd).symm, .inl rfl⟩

theorem busyState_stateForBit (i : Nat) : busyState (stateForBit i) = true := by
  rw [stateForBit]; split <;> rfl

theorem countsAndProgresses_of_bitMeasureHigh {s : State} (hs : s.state = .bitMeasureHigh)
    (hd : s.elapsed < s.cfg.deadlineUs) (l : Bool) : CountsAndProgresses s (tickStep s l) := by
  cases l with
  | false =>
    rw [tickStep_bitMeasureHigh_low hs hd]
    exact ⟨(elapsedNext_of_lt hd).symm, .inl (busyState_stateForBit _)⟩
  | true =>
    rcases Nat.lt_or_ge s.pulseCnt s.cfg.pulseCap with hcap | hcap
    · rw [tickStep_bitMeasureHigh_high hs hd hcap]
      exact ⟨(elapsedNext_of_lt hd).symm, .inl (congrArg busyState hs)⟩
    · rw [tickStep_bitMeasureHigh_cap hs hd hcap]
      exact countsAndProgresses_raiseTimeout .bitMeasureHigh s

theorem countsAndProgresses_of_checksumCheck {s : State} (hs : s.state = .checksumCheck)
    (hd : s.elapsed < s.cfg.deadlineUs) (l : Bool) : CountsAndProgresses s (tickStep s l) := by
  rw [tickStep_checksumCheck hs hd]
  split
  · exact ⟨rfl, .inr ⟨.inl rfl, rfl⟩⟩
  · exact ⟨rfl, .inr ⟨.inr (.inr rfl), rfl⟩⟩

/-- Every tick of an exchange counts itself, and the exchange goes on or ends with DONE. -/
theorem tickStep_countsAndProgresses {s : State} (hb : busy s = true) (l : Bool) :
    CountsAndProgresses s (tickStep s l) := by
  rcases startPulse_or_testsDeadline_of_busy hb with hs | htests
  case inl => exact countsAndProgresses_of_startPulse hs l
  rcases Nat.lt_or_ge s.elapsed s.cfg.deadlineUs with hd | hd
  case inr =>
    rw [tickStep_of_deadline htests hd]
    exact countsAndProgresses_raiseTimeout s.state s
  cases hq : s.state
  case awaitReleaseHigh | awaitAckLow | awaitAckHigh =>
    simp only [tickStep, hq]
    exact countsAndProgresses_waitWhile hb _ _ rfl l
  case bitWaitLow => exact countsAndProgresses_of_bitWaitLow hq hd l
  case bitMeasureHigh => exact countsAndProgresses_of_bitMeasureHigh hq hd l
  case checksumCheck => exact countsAndProgresses_of_checksumCheck hq hd l
  all_goals
    rw [hq] at htests
    exact nomatch htests

/-- After an edge in an exchange, the exchange is still in progress or has ended with DONE. -/
theorem clockEdge_busy_or_ended {s : State} (hb : busy s = true) :
    busy (clockEdge s) = true ∨ Ended (clockEdge s) := by
  cases ht : isTick s with
  | false => exact .inl (by rw [busy, clockEdge_state_of_no_tick ht]; exact hb)
  | true =>
    rw [clockEdge_of_tick ht]
    exact busy_or_ended_congr (tickStep_countsAndProgresses hb (lin s)).goesOnOrEnds rfl rfl

end Sys2Proof.Machine

end

/-! ### The interrupt -/

section

namespace Sys2Proof.Machine

theorem irq_setIe (b : Bool) (s : State) : irq (setIe b s) = (s.done && b) := rfl

theorem irq_eq_false_of_done {s : State} (h : s.done = false) : irq s = false := by
  rw [irq, h, Bool.false_and]

/-- The edge that ends an exchange raises `irq` if IE = 1 (R361). -/
theorem irq_clockEdge_of_end {s : State} (hb : busy s = true) (hend : busy (clockEdge s) = false)
    (hie : s.ie = true) : irq (clockEdge s) = true := by
  have hended : Ended (clockEdge s) :=
    (clockEdge_busy_or_ended hb).resolve_left fun hb1 => nomatch hend.symm.trans hb1
  rw [irq, hended.done, clockEdge_ie, hie, Bool.and_self]

/-- Settles O34: the end of an exchange sets DONE, and each write acts on the state that the edge leaves. -/
theorem interruptFollowsDoneAndEnable : Obligations.InterruptFollowsDoneAndEnable := by
  intro s t hnop
  obtain rfl : clockEdge s = t := Host.Outcome.next.inj hnop
  refine ⟨rfl, ?rises, fun lane wdata => ?enable, fun lane wdata hclr hend => ?clear, fun lane wdata hb => ?start⟩
  case rises => exact fun ⟨hb, hend, hie⟩ => irq_clockEdge_of_end hb hend hie
  case enable => exact ⟨_, exec_wrCtrlNostart lane wdata s, irq_setIe ..⟩
  case clear =>
    have hkeeps : busy s = true → busy (clockEdge s) = true := fun hb =>
      Bool.of_not_eq_false fun hb1 => hend ⟨hb, hb1⟩
    refine ⟨_, exec_wrStatus lane wdata s, ?_⟩
    rw [statusEffect_of_clear hclr hkeeps]
    exact irq_eq_false_of_done (clearDone_done _)
  case start =>
    refine ⟨_, exec_wrCtrlStart lane wdata s, ?_⟩
    rw [ctrlStartEffect_of_not_busy hb]
    exact irq_eq_false_of_done (startAccept_done _)

end Sys2Proof.Machine

end

/-! ### Every exchange ends -/

section

namespace Sys2Proof.Machine

/-- The clock cycles up to and with the tick `DEADLINE_US + 1` of the exchange: whole ticks, less the cycles of the
current tick that have passed (R49, R231). -/
def cyclesToDeadline (s : State) : Nat := s.cfg.clkPerTick * (s.cfg.deadlineUs + 1 - s.elapsed) - s.presc

/-- In a sound state of an exchange the deadline's tick is still to come. -/
theorem cyclesToDeadline_pos {s : State} (h : StateInv s) (hb : busy s = true) : 0 < cyclesToDeadline s := by
  have hle := h.elapsed_le_of_busy hb
  have hpresc := h.prescaler
  have hmul : s.cfg.clkPerTick ≤ s.cfg.clkPerTick * (s.cfg.deadlineUs + 1 - s.elapsed) :=
    Nat.le_mul_of_pos_right _ (by omega)
  rw [cyclesToDeadline]
  omega

/-- Each edge of an exchange, a tick or not, is one cycle less to the deadline's tick. -/
theorem cyclesToDeadline_clockEdge {s : State} (h : StateInv s) (hb : busy s = true) :
    cyclesToDeadline (clockEdge s) + 1 = cyclesToDeadline s := by
  have hpos := cyclesToDeadline_pos h hb
  rw [cyclesToDeadline] at hpos
  rw [cyclesToDeadline, cyclesToDeadline, clockEdge_cfg, clockEdge_presc]
  cases ht : isTick s with
  | false =>
    rw [clockEdge_of_no_tick ht, finishEdge_elapsed, prescNext_of_no_tick ht]
    omega
  | true =>
    have hle := h.elapsed_le_of_busy hb
    have hpresc := isTick_eq_true_iff.mp ht
    have helapsed : (clockEdge s).elapsed = s.elapsed + 1 := by
      rw [clockEdge_of_tick ht, finishEdge_elapsed, (tickStep_countsAndProgresses hb (lin s)).elapsed, elapsedNext]
      omega
    have htick : s.cfg.clkPerTick * (s.cfg.deadlineUs + 1 - s.elapsed)
        = s.cfg.clkPerTick * (s.cfg.deadlineUs - s.elapsed) + s.cfg.clkPerTick := by
      rw [← Nat.mul_succ, Nat.succ_sub hle]
    rw [helapsed, prescNext_of_tick ht, Nat.add_sub_add_right, htick]
    omega

/-- In a sound state of an exchange no transaction changes more of the cycle than IE and `bus_rdata` (R400, R403). -/
theorem cycle_of_busy {s : State} (h : StateInv s) (hb : busy s = true) (w : Option TxnWord) :
    ∃ ie rdata, cycle s w = { clockEdge s with ie := ie, rdata := rdata } := by
  cases w with
  | none => exact ⟨_, _, rfl⟩
  | some w =>
    cases hw : txnWrite w with
    | false => rw [cycle_of_read hw]; exact ⟨_, _, rfl⟩
    | true =>
      rw [cycle_of_write hw]
      rcases writeEffect_cases s (clockEdge s) (txnAddr w) (txnData w) with
        ⟨-, -, hidle, -⟩ | ⟨-, -, heq⟩ | ⟨-, -, hb1, heq⟩ | ⟨-, -, heq⟩
      case inl => exact nomatch hidle.symm.trans hb
      case inr.inr.inl =>
        have hdone : (clockEdge s).done = false := (clockEdge_done_of_busy (hb1 hb)).trans (h.done_of_busy hb)
        rw [heq, clearDone_of_done_eq_false hdone]
        exact ⟨_, _, rfl⟩
      all_goals rw [heq]; exact ⟨_, _, rfl⟩

theorem rstNow_of_noReset {s : State} (h : noReset s) : rstNow s = true :=
  rstNow_eq_true fun hhead => nomatch h false (List.mem_of_mem_head? hhead)

/-- A step of a sound exchange is a clock edge, but for IE, `bus_rdata` and the host's program. -/
theorem step_of_busy {s : State} (h : StateInv s) (hb : busy s = true) (hr : noReset s) :
    ∃ ie rdata rest, step s = .next { clockEdge (takeInputs s) with ie := ie, rdata := rdata, hostIn := rest } := by
  obtain ⟨ie, rdata, hcycle⟩ := cycle_of_busy (s := takeInputs s) h.withPorts hb (issuedTxn s)
  obtain ⟨rest, hretire⟩ := retire_eq (hostNow s) { clockEdge (takeInputs s) with ie := ie, rdata := rdata }
  refine ⟨ie, rdata, rest, ?_⟩
  rw [step_of_exec h.legal (rstNow_of_noReset hr) (exec_fetch ..), hcycle, hretire]

/-- `t` follows a sound state `s` of an exchange: one cycle nearer to the deadline's tick, the exchange goes on or has
ended with DONE. -/
structure ExchangeStep (s t : State) : Prop where
  step : step s = .next t
  inv : StateInv t
  noReset : noReset t
  cfg : t.cfg = s.cfg
  nearer : cyclesToDeadline t + 1 = cyclesToDeadline s
  goesOnOrEnds : busy t = true ∨ Ended t

theorem exists_exchangeStep {s : State} (h : StateInv s) (hb : busy s = true) (hr : noReset s) :
    ∃ t, ExchangeStep s t := by
  obtain ⟨ie, rdata, rest, hstep⟩ := step_of_busy h hb hr
  have hinputs : StateInv (takeInputs s) := h.withPorts
  have hinputsBusy : busy (takeInputs s) = true := hb
  refine ⟨_, hstep, stepKeepsTheInvariant s _ h hstep, fun b hmem => ?_, clockEdge_cfg _,
    cyclesToDeadline_clockEdge hinputs hinputsBusy, busy_or_ended_congr (clockEdge_busy_or_ended hinputsBusy) rfl rfl⟩
  have htail : b ∈ (clockEdge (takeInputs s)).rstIn := hmem
  rw [clockEdge_rstIn, takeInputs_rstIn] at htail
  exact hr b (List.mem_of_mem_tail htail)

theorem run_succ_of_step {s t : State} (h : step s = .next t) (k : Nat) :
    Sys2Proof.core.run (k + 1) s = Sys2Proof.core.run k t := by
  simp only [Host.Core.run, core, h]

/-- An exchange has ended with DONE when its `n` cycles to the deadline's tick are over. -/
theorem run_ends {n : Nat} : ∀ {s : State}, StateInv s → busy s = true → noReset s → cyclesToDeadline s = n →
    ∃ k t, k ≤ n ∧ Sys2Proof.core.run k s = .next t ∧ Ended t ∧ StateInv t ∧ t.cfg = s.cfg := by
  induction n with
  | zero =>
    intro s h hb _ hn
    exact absurd hn (cyclesToDeadline_pos h hb).ne'
  | succ n ih =>
    intro s h hb hr hn
    obtain ⟨t, hstep, hinv, hnoReset, hcfg, hnearer, hb1 | hended⟩ := exists_exchangeStep h hb hr
    case inl =>
      obtain ⟨k, u, hk, hrun, hended, hu, hucfg⟩ := ih hinv hb1 hnoReset (by omega)
      exact ⟨k + 1, u, Nat.succ_le_succ hk, (run_succ_of_step hstep k).trans hrun, hended, hu, hucfg.trans hcfg⟩
    case inr => exact ⟨1, t, Nat.succ_pos n, run_succ_of_step hstep 0, hended, hinv, hcfg⟩

/-- Settles O35: each step is one cycle nearer to the deadline's tick, and the exchange stops in no other way than with
DONE in a terminal state. -/
theorem everyExchangeEnds : Obligations.EveryExchangeEnds := by
  intro s h hb hr
  obtain ⟨k, t, hk, hrun, ⟨hterminal, hdone⟩, hinv, hcfg⟩ := run_ends h hb hr rfl
  have helapsed := hinv.countersInRange.elapsed
  rw [hcfg] at helapsed
  exact ⟨k, t, hk.trans (Nat.sub_le _ _), hrun, hterminal, hdone, helapsed⟩

end Sys2Proof.Machine

end

/-! ### A reset cycle, and the host beside a running exchange -/

section

namespace Sys2Proof.Machine

theorem rstNow_of_cons {s : State} {b : Bool} {rest : List Bool} (h : s.rstIn = b :: rest) : rstNow s = b := by
  rw [rstNow, h, List.headD_cons]

theorem resetCycle_rstIn (s : State) : (resetCycle s).rstIn = s.rstIn.tail := rfl

theorem resetCycle_sync_length (s : State) : (resetCycle s).sync.length = s.cfg.syncStages :=
  freeSyncBits_length s.cfg.syncStages (s.cycleNo + 1)

/-- Settles O10: the step is `resetCycle`, which has R63's values whatever the state before it was. -/
theorem resetInputAbortsTheExchange : Obligations.ResetInputAbortsTheExchange := by
  intro s rest hc hrst
  have hin : (resetCycle s).rstIn = rest := by rw [resetCycle_rstIn, hrst, List.tail_cons]
  exact ⟨resetCycle s, step_of_reset hc (rstNow_of_cons hrst), rfl, rfl, rfl, rfl, rfl, rfl, rfl, rfl, rfl, rfl,
    resetCycle_sync_length s, rfl, rfl, rfl, rfl, rfl, rfl, rfl, hin⟩

/-- Settles O30: both are cycles, and in a sound exchange a cycle is the clock edge but for IE and `bus_rdata`. -/
theorem hostCannotDisturbARunningExchange : Obligations.HostCannotDisturbARunningExchange := by
  intro s t u w h hb ht hu
  obtain rfl : cycle s (some w) = t := Host.Outcome.next.inj ((exec_decode_bus w s).symm.trans ht)
  obtain rfl : clockEdge s = u := Host.Outcome.next.inj ((exec_nop s).symm.trans hu)
  obtain ⟨ie, rdata, hcycle⟩ := cycle_of_busy h hb (some w)
  rw [hcycle]

end Sys2Proof.Machine

end

/-! ### The way of a line level through the synchroniser -/

section

namespace Sys2Proof.Machine

/-- What decides the synchroniser's next contents besides the line: its stages, their number, and the resets to come
(R50, R63). -/
def samplePath (s : State) : Config × List Bool × List Bool := (s.cfg, s.sync, s.rstIn)

theorem samplePath_clockEdge (s : State) : samplePath (clockEdge s) = (s.cfg, syncNext s, s.rstIn) := by
  rw [samplePath, clockEdge_cfg, clockEdge_sync, clockEdge_rstIn]

/-- No transaction touches the synchroniser, not even an accepted START (R151, R154). -/
theorem samplePath_cycle (s : State) (w : Option TxnWord) : samplePath (cycle s w) = samplePath (clockEdge s) := by
  cases w with
  | none => rfl
  | some w =>
    cases hw : txnWrite w with
    | false => rw [cycle_of_read hw]; rfl
    | true =>
      rw [cycle_of_write hw]
      rcases writeEffect_cases s (clockEdge s) (txnAddr w) (txnData w) with
        ⟨-, -, -, heq⟩ | ⟨-, -, heq⟩ | ⟨-, -, -, heq⟩ | ⟨-, -, heq⟩ <;> rw [heq] <;> rfl

theorem samplePath_retire (op : HostOp) (s : State) : samplePath (retire op s) = samplePath s := by
  obtain ⟨rest, h⟩ := retire_eq op s
  rw [h]; rfl

/-- A level in stage `k` is in stage `k + 1` after the edge (R50). -/
theorem syncNext_getElem?_succ {s : State} {k : Nat} (hk : k + 1 < s.cfg.syncStages) :
    (syncNext s)[k + 1]? = s.sync[k]? := by
  rw [syncNext, List.getElem?_take_of_lt hk, List.getElem?_cons_succ]

/-- The edge takes the line's level into the first stage (R50). -/
theorem syncNext_getElem?_zero {s : State} (h : 0 < s.cfg.syncStages) : (syncNext s)[0]? = some (pinNow s) := by
  rw [syncNext, List.getElem?_take_of_lt h, List.getElem?_cons_zero]

/-- `t` follows `s` with no reset: the synchroniser has moved on by one stage. -/
structure SampleStep (s t : State) : Prop where
  step : step s = .next t
  cfg : t.cfg = s.cfg
  sync : t.sync = syncNext s
  noReset : noReset t

theorem exists_sampleStep {s : State} (hc : configLegal s.cfg = true) (hr : noReset s) : ∃ t, SampleStep s t := by
  have hpath : samplePath (retire (hostNow s) (cycle (takeInputs s) (issuedTxn s)))
      = (s.cfg, syncNext s, s.rstIn.tail) := by
    rw [samplePath_retire, samplePath_cycle, samplePath_clockEdge]; rfl
  simp only [samplePath, Prod.mk.injEq] at hpath
  obtain ⟨hcfg, hsync, hrst⟩ := hpath
  refine ⟨_, step_of_exec hc (rstNow_of_noReset hr) (exec_fetch ..), hcfg, hsync, fun b hmem => ?_⟩
  rw [hrst] at hmem
  exact hr b (List.mem_of_mem_tail hmem)

/-- A level in stage `k` is in stage `k + n` after `n` steps. -/
theorem run_sync_getElem? {l : Bool} (n : Nat) : ∀ {s : State} {k : Nat}, configLegal s.cfg = true → noReset s →
    k + n < s.cfg.syncStages → s.sync[k]? = some l →
    ∃ t, Sys2Proof.core.run n s = .next t ∧ t.sync[k + n]? = some l := by
  induction n with
  | zero => exact fun _ _ _ hl => ⟨_, rfl, hl⟩
  | succ n ih =>
    intro s k hc hr hk hl
    obtain ⟨s1, hstep, hcfg, hsync, hr1⟩ := exists_sampleStep hc hr
    have hl1 : s1.sync[k + 1]? = some l := by rw [hsync, syncNext_getElem?_succ (by omega), hl]
    obtain ⟨t, hrun, hlt⟩ := ih (hcfg ▸ hc) hr1 (by rw [hcfg]; omega) hl1
    exact ⟨t, (run_succ_of_step hstep n).trans hrun, by rwa [Nat.add_right_comm] at hlt⟩

/-- Settles O36: the first step takes the level into stage 0, and each further step moves it on by one stage. -/
theorem lineSampleIsLateByTheSynchroniser : Obligations.LineSampleIsLateByTheSynchroniser := by
  intro s l rest h hr hline
  obtain ⟨-, hstages, -⟩ := configLegal_iff.mp h.legal
  obtain ⟨n, hn⟩ : ∃ n, s.cfg.syncStages = n + 1 := ⟨s.cfg.syncStages - 1, by omega⟩
  obtain ⟨s1, hstep, hcfg, hsync, hr1⟩ := exists_sampleStep h.legal hr
  have hl1 : s1.sync[0]? = some l := by
    rw [hsync, syncNext_getElem?_zero (by omega), pinNow, hline, List.headD_cons]
  obtain ⟨t, hrun, hlt⟩ := run_sync_getElem? n (hcfg ▸ h.legal) hr1 (by rw [hcfg]; omega) hl1
  rw [hn, Nat.add_sub_cancel]
  exact ⟨t, (run_succ_of_step hstep n).trans hrun, by rwa [Nat.zero_add] at hlt⟩

end Sys2Proof.Machine

end
